-- ==== Sys2Proof/Word.lean ====
section
/-! DEFINITION. The byte, the unit of every record on the line ring (R145, R199). -/

namespace Sys2Proof

/-- One byte of a record. -/
abbrev Byte := BitVec 8

end Sys2Proof
end

