-- ==== Sys2Proof/Syntax.lean ====
section
/-! DEFINITION. Records of the line ring and the commands of the block: one constructor for each row of
spec/opcode_table.json. -/

namespace Sys2Proof

/-- A record of the line ring (R145): kind, destination, source and payload. Its payload length field and its check are
functions of these (R145, R146), so a whole record is told by them (DEDUCED, notes/assumptions/19.md). -/
structure Record where
  kind    : Byte
  dst     : Byte
  src     : Byte
  payload : List Byte
  deriving DecidableEq, Repr

/-- The commands of the block. A command that is the arrival of a record carries the record's destination and source and
what its payload holds; a management command carries the operand bytes that follow its command code (R206). -/
inductive Instr where
  /-- POWER_ON (R148): supply comes up with this value on STRAP_ID. -/
  | powerOn (pins : BitVec 4)
  /-- NRST_ASSERT (R148): NRST goes low. -/
  | nrstAssert
  /-- NRST_RELEASE (R148): NRST goes high with this value on STRAP_ID. -/
  | nrstRelease (pins : BitVec 4)
  /-- STRAP_CHANGED (R149): the value on STRAP_ID becomes this. -/
  | strapChanged (pins : BitVec 4)
  /-- GOOD_RECORD_IN_HUNT (R150): a good record arrives. -/
  | goodRecordInHunt (r : Record)
  /-- BAD_RECORD (R151): these bytes arrive and do not make a good record. -/
  | badRecord (bytes : List Byte)
  /-- FORWARD_RECORD (R160): a good record arrives that the station is to pass on. -/
  | forwardRecord (r : Record)
  /-- REEL (R6, layout R201). -/
  | reel (dst src : Byte) (number : BitVec 16) (polarity format linePitch : Byte) (counter : BitVec 24)
  /-- MARK (R8, layout R201). -/
  | mark (dst src : Byte) (cls : Byte) (counter : BitVec 24)
  /-- SCAN (R14, layout R202): the whole payload, count byte first. -/
  | scan (dst src : Byte) (payload : List Byte)
  /-- REEL_END (R7). -/
  | reelEnd (dst src : Byte)
  /-- FLUSH_TIMER_EXPIRY (R95). -/
  | flushTimerExpiry
  /-- DONE (R125, layout R205). -/
  | done (dst src : Byte) (seq : BitVec 16) (result : Byte)
  /-- DONE_DEADLINE_EXPIRY (R131) of the in-flight entry with this sequence. -/
  | doneDeadlineExpiry (seq : BitVec 16)
  /-- ARBITER_CHOICE (R164). -/
  | arbiterChoice
  /-- ROLL (R158, layout R205). -/
  | roll (dst src : Byte) (counter : Byte)
  /-- EMPTY_COMMAND (R170): a COMMAND whose payload is empty. -/
  | emptyCommand (dst src : Byte)
  /-- UNKNOWN_COMMAND (R170): a COMMAND whose code names no command. -/
  | unknownCommand (dst src : Byte) (code : Byte) (operand : List Byte)
  /-- JOIN (R156). -/
  | join (dst src : Byte) (operand : List Byte)
  /-- PATH_TO_STORED (R156): the idle fill that follows a JOIN. -/
  | pathToStored
  /-- LEAVE (R157). -/
  | leave (dst src : Byte) (operand : List Byte)
  /-- LEAVE_DRAIN_END (R157): the receiver is between records, in idle fill. -/
  | leaveDrainEnd
  /-- SET_MODE (R177). -/
  | setMode (dst src : Byte) (operand : List Byte)
  /-- STATION_RESET (R181). -/
  | stationReset (dst src : Byte) (operand : List Byte)
  /-- LOAD_DENSITY (R37). -/
  | loadDensity (dst src : Byte) (operand : List Byte)
  /-- LOAD_SETTINGS (R174). -/
  | loadSettings (dst src : Byte) (operand : List Byte)
  /-- LOAD_PUNCH (R113). -/
  | loadPunch (dst src : Byte) (operand : List Byte)
  /-- LOAD_FIELDS (R108). -/
  | loadFields (dst src : Byte) (operand : List Byte)
  /-- LIST_APPEND (R57). -/
  | listAppend (dst src : Byte) (operand : List Byte)
  /-- LIST_CLEAR (R64). -/
  | listClear (dst src : Byte) (operand : List Byte)
  /-- LIST_QUERY (R65). -/
  | listQuery (dst src : Byte) (operand : List Byte)
  /-- FLUSH (R184). -/
  | flush (dst src : Byte) (operand : List Byte)
  /-- RESUME_OUTPUT (R134). -/
  | resumeOutput (dst src : Byte) (operand : List Byte)
  /-- READ_STATUS (R185). -/
  | readStatus (dst src : Byte) (operand : List Byte)
  /-- READ_COUNTERS (R197). -/
  | readCounters (dst src : Byte) (operand : List Byte)
  /-- READ_EVENTS (R191). -/
  | readEvents (dst src : Byte) (operand : List Byte)
  /-- CLEAR_EVENTS (R191). -/
  | clearEvents (dst src : Byte) (operand : List Byte)
  /-- SET_MASK (R190). -/
  | setMask (dst src : Byte) (operand : List Byte)
  /-- ARM_NOTICE (R194). -/
  | armNotice (dst src : Byte) (operand : List Byte)
  /-- IDENTIFY (R186). -/
  | identify (dst src : Byte) (operand : List Byte)
  /-- TRANSMIT_COMPLETE (R161): the transmit port has sent its record whole. -/
  | transmitComplete
  deriving DecidableEq, Repr

end Sys2Proof
end

