-- ==== Sys2Proof/Config.lean ====
section
/-! DEFINITION. What the spec leaves open and the model leaves free. Fixed numbers of the manual stand in Machine/Codes.lean. -/

namespace Sys2Proof

/-- FREE VALUE. When the flush timer and a done deadline reach 0 in the same tenth of a second, no rule says which
expiry is taken first (R96 and R132 order only the races they list). `true`: the flush timer's. Applied to a counter in
the state, so that every such meeting is a choice of its own. DESIGN CHOICE, notes/assumptions/3.md -/
opaque Config.flushExpiryFirst : Nat → Bool

end Sys2Proof
end

