-- ==== Sys2Proof/Machine/Bytes.lean ====
section
/-! DEFINITION. Byte order (R199): every number of two or more bytes is written and read high byte first. -/

namespace Sys2Proof.Machine

/-- A number in one byte. -/
def be8 (n : Nat) : List Byte := [BitVec.ofNat 8 n]

/-- A number in two bytes, high byte first. -/
def be16 (n : Nat) : List Byte := [BitVec.ofNat 8 (n / 256), BitVec.ofNat 8 n]

/-- A number in three bytes, high byte first. -/
def be24 (n : Nat) : List Byte :=
  [BitVec.ofNat 8 (n / 65536), BitVec.ofNat 8 (n / 256), BitVec.ofNat 8 n]

/-- A number in four bytes, high byte first. -/
def be32 (n : Nat) : List Byte := be16 (n / 65536) ++ be16 n

/-- A yes/no item: 1 for yes, 0 for no (R199, R208). -/
def flag8 (b : Bool) : List Byte := be8 (if b then 1 else 0)

/-- A value that may be none, with a one-byte presence indicator; the value is 0 when none (R199). -/
def presence16 (v : Option Nat) : List Byte := flag8 v.isSome ++ be16 (v.getD 0)

/-- The number that a byte string holds, high byte first. -/
def readBe (bs : List Byte) : Nat := bs.foldl (fun acc b => acc * 256 + b.toNat) 0

/-- The 16-bit words of a byte string, in order; a last odd byte belongs to no word. -/
def words16 : List Byte → List Nat
  | hi :: lo :: rest => readBe [hi, lo] :: words16 rest
  | _ => []

end Sys2Proof.Machine
end

