-- ==== Sys2Proof/Machine/Check.lean ====
section
/-! DEFINITION. Records as bytes and the check that closes them (R145, R146). -/

namespace Sys2Proof.Machine

/-- One data bit into the check register (R146, step 3). -/
def checkBit (reg : BitVec 16) (bit : Bool) : BitVec 16 :=
  if (reg.msb ^^ bit) then (reg <<< 1) ^^^ 0x1021#16 else reg <<< 1

/-- One byte into the check register, most significant bit first (R146, step 2). -/
def checkByte (reg : BitVec 16) (b : Byte) : BitVec 16 :=
  checkBit (checkBit (checkBit (checkBit (checkBit (checkBit (checkBit (checkBit reg
    (b.getLsbD 7)) (b.getLsbD 6)) (b.getLsbD 5)) (b.getLsbD 4))
    (b.getLsbD 3)) (b.getLsbD 2)) (b.getLsbD 1)) (b.getLsbD 0)

/-- The check register after a byte string, from 0xFFFF (R146, step 1). -/
def checkOf (bs : List Byte) : BitVec 16 := bs.foldl checkByte 0xFFFF#16

/-- The largest payload of a record (R145). -/
def maxPayload : Nat := 320

/-- The five header bytes of a record (R145, R199). -/
def headerBytes (r : Record) : List Byte :=
  [r.kind, r.dst, r.src] ++ be16 r.payload.length

/-- A record byte for byte, check included (R145). -/
def recordBytes (r : Record) : List Byte :=
  let body := headerBytes r ++ r.payload
  body ++ be16 (checkOf body).toNat

/-- The length of a record on the line: 5 + payload length + 2 (R145, R160). -/
def recordLength (r : Record) : Nat := 5 + r.payload.length + 2

/-- The receiver's judgement of the bytes it took as one record (R146): the record when they are good, that is when the
length field is at most 320, the record is complete and the register after the second check byte is 0; none when bad. -/
def parseRecord : List Byte → Option Record
  | kind :: dst :: src :: lenHi :: lenLo :: rest =>
    let len := readBe [lenHi, lenLo]
    if len ≤ maxPayload ∧ rest.length = len + 2 ∧
        checkOf (kind :: dst :: src :: lenHi :: lenLo :: rest) = 0#16 then
      some { kind := kind, dst := dst, src := src, payload := rest.take len }
    else none
  | _ => none

end Sys2Proof.Machine
end

