-- ==== Sys2Proof/Machine/Codes.lean ====
section
/-! DEFINITION. The codes used on the ring (R145, R199, R206) and the fixed sizes of the part. -/

namespace Sys2Proof.Machine

/-! Kind codes (R199). -/

def kindReel : Byte := 0x10#8
def kindMark : Byte := 0x11#8
def kindScan : Byte := 0x12#8
def kindReelEnd : Byte := 0x13#8
def kindCard : Byte := 0x20#8
def kindWaste : Byte := 0x21#8
def kindDone : Byte := 0x22#8
def kindHalt : Byte := 0x30#8
def kindFeed : Byte := 0x31#8
def kindCommand : Byte := 0x40#8
def kindReply : Byte := 0x41#8
def kindNotice : Byte := 0x42#8
def kindRoll : Byte := 0x48#8

/-! Destinations (R145). -/

def dstConsole : Byte := 0#8
def dstAll : Byte := 63#8
def dstReader : Byte := 64#8
def dstMounter : Byte := 65#8
def dstConverter : Byte := 66#8

/-- The source of a station without a position (R145). -/
def srcNone : Byte := 255#8

/-! Command codes (R206). -/

def codeJoin : Byte := 0x01#8
def codeLeave : Byte := 0x02#8
def codeSetMode : Byte := 0x03#8
def codeStationReset : Byte := 0x04#8
def codeLoadDensity : Byte := 0x10#8
def codeLoadSettings : Byte := 0x11#8
def codeLoadPunch : Byte := 0x12#8
def codeLoadFields : Byte := 0x13#8
def codeListAppend : Byte := 0x20#8
def codeListClear : Byte := 0x21#8
def codeListQuery : Byte := 0x22#8
def codeFlush : Byte := 0x28#8
def codeResumeOutput : Byte := 0x29#8
def codeReadStatus : Byte := 0x30#8
def codeReadCounters : Byte := 0x31#8
def codeReadEvents : Byte := 0x32#8
def codeClearEvents : Byte := 0x33#8
def codeSetMask : Byte := 0x34#8
def codeArmNotice : Byte := 0x35#8
def codeIdentify : Byte := 0x3F#8

/-- The codes that name a command (R206). -/
def commandCodes : List Byte :=
  [codeJoin, codeLeave, codeSetMode, codeStationReset, codeLoadDensity, codeLoadSettings, codeLoadPunch,
   codeLoadFields, codeListAppend, codeListClear, codeListQuery, codeFlush, codeResumeOutput, codeReadStatus,
   codeReadCounters, codeReadEvents, codeClearEvents, codeSetMask, codeArmNotice, codeIdentify]

/-! Identification (R169). -/

def vendorCode : Nat := 0x0B7A
def partCode : Nat := 0x0C24
def revisionNumber : Nat := 1

/-! Fixed sizes (R168, R52, R67, R91, R122, R163). -/

/-- Bytes of the forward queue (R147). -/
def forwardBytes : Nat := 4096
/-- Places of the control queue for records other than the halt report (R162, R163). -/
def controlPlaces : Nat := 7
/-- Slots of the hold queue (R67). -/
def holdSlots : Nat := 32
/-- Length of the output queue at which release stops (R91). -/
def outputRoom : Nat := 24
/-- Entries of the drawing list (R49). -/
def listEntries : Nat := 256
/-- Counted samples of a frame (R42). -/
def sampleCap : Nat := 8192
/-- Lines of a frame (R14). -/
def lineCap : Nat := 256
/-- The highest frame number (R16). -/
def lastFrameNumber : Nat := 65535

end Sys2Proof.Machine
end

