-- ==== Sys2Proof/Machine/Types.lean ====
section
/-! DEFINITION. The names and records that the blocks' state is made of, as the spec's state tables give them. -/

namespace Sys2Proof.Machine

/-! Line port (R147). -/

inductive StationMode where | bypass | pass | convert
  deriving DecidableEq, Repr

inductive LinePath where | through | stored
  deriving DecidableEq, Repr

inductive Alignment where | hunt | locked
  deriving DecidableEq, Repr

/-- A record waiting in the control queue; `halt` marks the halt report (R141, R162). -/
structure ControlItem where
  halt   : Bool
  record : Record
  deriving DecidableEq, Repr

/-- What the transmit port is sending. A forwarded record also stays at the head of the forward queue until it is sent
whole (R161). -/
structure Sending where
  forwarded : Bool
  record    : Record
  deriving DecidableEq, Repr

structure LinePort where
  mode          : StationMode
  path          : LinePath
  alignment     : Alignment
  goodRun       : Nat
  badRun        : Nat
  position      : Option Nat
  strap         : BitVec 4
  forward       : List Record
  control       : List ControlItem
  /-- The place reserved in the control queue for the record of the command that is acting (R163). -/
  replyReserved : Bool
  burst         : Nat
  sending       : Option Sending
  deriving DecidableEq, Repr

/-! Density unit (R29). -/

inductive DensityClass where | unmeasured | blank | thin | dense | flat | good
  deriving DecidableEq, Repr

/-- The frame accumulators (R29). -/
structure Accumulators where
  n        : Nat
  sum      : Nat
  dmin     : Option Nat
  dmax     : Option Nat
  overflow : Bool
  deriving DecidableEq, Repr

/-- A density result (R20, R29). -/
structure DensityResult where
  n        : Nat
  dmin     : Nat
  dmean    : Nat
  dmax     : Nat
  contrast : Nat
  cls      : DensityClass
  overflow : Bool
  deriving DecidableEq, Repr

structure DensityUnit where
  table : List Nat
  acc   : Accumulators
  last  : Option DensityResult
  deriving DecidableEq, Repr

/-! Frame tracker (R1). -/

inductive TrackerState where | idle | acquire | tracking | rewound | lost | full
  deriving DecidableEq, Repr

inductive Polarity where | negative | positive
  deriving DecidableEq, Repr

inductive SampleFormat where | w16 | w12 | w8p
  deriving DecidableEq, Repr

inductive MarkClass where | doc | sheet | retake | target | unknown
  deriving DecidableEq, Repr

inductive PitchClass where | normal | long | gap | sliver | unchecked
  deriving DecidableEq, Repr

structure ReelParams where
  number        : Nat
  polarity      : Polarity
  format        : SampleFormat
  linePitch     : Nat
  counterAtLoad : Nat
  deriving DecidableEq, Repr

structure Assembly where
  mark         : MarkClass
  counter      : Nat
  lines        : Nat
  lineOverflow : Bool
  deriving DecidableEq, Repr

/-- A closed frame, with the items of R20. -/
structure ClosedFrame where
  reel           : Nat
  number         : Nat
  counter        : Nat
  pitch          : Nat
  pitchClass     : PitchClass
  mark           : MarkClass
  leader         : Bool
  pitchEstimated : Bool
  suspect        : Bool
  result         : DensityResult
  sampleOverflow : Bool
  deriving DecidableEq, Repr

structure FrameTracker where
  state         : TrackerState
  reel          : Option ReelParams
  pitchChecking : Bool
  lastMark      : Option Nat
  nextNew       : Nat
  frameCounter  : Nat
  assembly      : Option Assembly
  buffer        : List ClosedFrame
  closeCount    : Nat
  deriving DecidableEq, Repr

/-! Drawing list (R49, R51). -/

/-- An entry of the drawing list. A text field is the list of its characters; an absent revision or title is the empty
list, as on the ring, where length 0 marks it (R53, R199). -/
structure Entry where
  listNumber : Nat
  drawing    : List Byte
  revision   : List Byte
  sheetCount : Nat
  title      : List Byte
  deriving DecidableEq, Repr

structure DrawingList where
  entries  : List Entry
  expected : Option Nat
  deriving DecidableEq, Repr

/-! Matching engine (R67, R69). -/

inductive WasteReason where | leader | sliver | target | blank | superseded
  deriving DecidableEq, Repr

inductive ExceptionCause where | unlisted | extra
  deriving DecidableEq, Repr

/-- The binding of a CARD slot, with the fields that each binding carries (R69). -/
inductive Binding where
  | bound (entry : Entry) (serial sheet : Nat)
  | unbound (serial sheet : Nat)
  | except (cause : ExceptionCause)
  deriving DecidableEq, Repr

/-- The flag set of a CARD slot (R69). -/
structure SlotFlags where
  retake         : Bool := false
  lateRetake     : Bool := false
  short          : Bool := false
  early          : Bool := false
  suspect        : Bool := false
  oversize       : Bool := false
  markInferred   : Bool := false
  pitchEstimated : Bool := false
  sampleOverflow : Bool := false
  poor           : Bool := false
  deriving DecidableEq, Repr

inductive SlotBody where
  | waste (reason : WasteReason)
  | card (binding : Binding) (flags : SlotFlags)
  deriving DecidableEq, Repr

structure Slot where
  reel    : Nat
  number  : Nat
  counter : Nat
  pitch   : Nat
  body    : SlotBody
  deriving DecidableEq, Repr

/-- An open or recent drawing (R67, R71, R72). `entry` is its entry copy; none: OPEN_UNBOUND, or "unbound". -/
structure Drawing where
  serial     : Nat
  entry      : Option Entry
  sheetsSeen : Nat
  deriving DecidableEq, Repr

structure MatchingEngine where
  hold       : List Slot
  /-- none: drawing state NONE. -/
  drawing    : Option Drawing
  recent     : Option Drawing
  serial     : Nat
  /-- none: stopped; else the tenths of a second remaining. -/
  flushTimer : Option Nat
  deriving DecidableEq, Repr

/-! Card composer (R99, R107, R112). -/

inductive Field where | drawing | sheet | revision | title | frameRef | note
  deriving DecidableEq, Repr

inductive Justification where | left | right
  deriving DecidableEq, Repr

structure Placement where
  field   : Field
  first   : Nat
  width   : Nat
  justify : Justification
  deriving DecidableEq, Repr

/-- A punch pattern as a row set (R204): bit 11 row 12, bit 10 row 11, bit 9 row 0, bits 8..0 rows 1..9. -/
abbrev Pattern := BitVec 12

structure CardComposer where
  fieldMap : List Placement
  punch    : List Pattern
  deriving DecidableEq, Repr

/-! Instructions (R101, R102). -/

inductive Disposition where | mount | reject
  deriving DecidableEq, Repr

/-- The binding of a CARD instruction with the numbers that only a bound card carries (R102, R203). -/
inductive CardBinding where
  | bound (listNumber sheet sheetCount : Nat)
  | unlisted
  | extra
  deriving DecidableEq, Repr

/-- An item of a punch image (R115). -/
inductive PunchItem where
  | run (columns : Nat)
  | literal (pattern : Pattern)
  deriving DecidableEq, Repr

inductive InstructionBody where
  | waste (reason : WasteReason)
  | card (disposition : Disposition) (binding : CardBinding) (flags : SlotFlags) (textCut : Bool)
      (printLine : List Byte) (image : List PunchItem)
  deriving DecidableEq, Repr

/-- A CARD or WASTE instruction as the output controller holds it (R120). `reissued` is the REISSUED mark, carried in
the flag set of a CARD and as the reissued indicator of a WASTE (R135). -/
structure Instruction where
  seq      : Nat
  reel     : Nat
  number   : Nat
  counter  : Nat
  pitch    : Nat
  reissued : Bool
  body     : InstructionBody
  deriving DecidableEq, Repr

/-! Output controller (R120). -/

structure InFlight where
  instruction : Instruction
  deadline    : Nat
  deriving DecidableEq, Repr

/-- The halt reason set (R138). -/
structure HaltSet where
  output : Bool
  jam    : Bool
  list   : Bool
  lost   : Bool
  deriving DecidableEq, Repr

inductive HaltReason where | output | jam | list | lost
  deriving DecidableEq, Repr

structure OutputController where
  queue    : List Instruction
  nextSeq  : Nat
  inFlight : List InFlight
  jam      : Option Instruction
  held     : Bool
  halt     : HaltSet
  deriving DecidableEq, Repr

/-! Command unit (R169, R187, R196). -/

/-- The 18 operating settings, in the order of R173. `poorReject` and `suspectReject`: the action is REJECT. -/
structure Settings where
  nMin          : Nat
  cBlank        : Nat
  cMin          : Nat
  dbLow         : Nat
  dbHigh        : Nat
  pitchMin      : Nat
  pitchMax      : Nat
  trackTol      : Nat
  countInvalid  : Bool
  poorReject    : Bool
  suspectReject : Bool
  flushTime     : Nat
  doneTime      : Nat
  creditLimit   : Nat
  burstLimit    : Nat
  stopLevel     : Nat
  goLevel       : Nat
  listLow       : Nat
  deriving DecidableEq, Repr

/-- The 24 events, in the order of their codes (R188). -/
inductive Event where
  | checkFail | linkSlip | fwdOverflow | strapChanged | positionNone | noReel | acquireFail | reversal
  | frameLost | missedMark | sliver | trackMismatch | reelFull | sampleOverflow | tableRepaired | listLow
  | listEmpty | missingSheet | lateRetake | earlyRelease | unlistedFrame | jam | doneTimeout | strayDone
  deriving DecidableEq, Repr

/-- A set of events, bit k for the event of code k: the event-set form of R205 read as one 24-bit number. -/
abbrev EventSet := BitVec 24

/-- The 15 counters, in the order of R196. -/
structure Counters where
  framesAccepted   : Nat
  replaysSkipped   : Nat
  duplicates       : Nat
  cards            : Nat
  wastes           : Nat
  superseded       : Nat
  lostFrames       : Nat
  unconfirmed      : Nat
  strays           : Nat
  jamLost          : Nat
  checkFails       : Nat
  forwardOverflows : Nat
  droppedCommands  : Nat
  badScanLines     : Nat
  ignoredInIdle    : Nat
  deriving DecidableEq, Repr

inductive Counter where
  | framesAccepted | replaysSkipped | duplicates | cards | wastes | superseded | lostFrames | unconfirmed | strays
  | jamLost | checkFails | forwardOverflows | droppedCommands | badScanLines | ignoredInIdle
  deriving DecidableEq, Repr

structure CommandUnit where
  settings : Settings
  latched  : EventSet
  mask     : EventSet
  arming   : Bool
  counters : Counters
  deriving DecidableEq, Repr

/-! Signals (00_scope.md, R148, R149). -/

structure Signals where
  nrstLow   : Bool
  strapPins : BitVec 4
  deriving DecidableEq, Repr

/-- The status of a REPLY (R171). -/
inductive Status where
  | ok | badLength | badValue | sequence | listFull | mode | busy | state | unknown
  deriving DecidableEq, Repr

end Sys2Proof.Machine
end

