-- ==== Sys2Proof/Machine/Flags.lean ====
section
/-! DEFINITION. Codes, bits and sets of the flags, reasons, events and classes (R188, R201, R203, R205, R208, R209). -/

namespace Sys2Proof.Machine

/-- The code of an event (R188). -/
def eventCode : Event → Nat
  | .checkFail => 0
  | .linkSlip => 1
  | .fwdOverflow => 2
  | .strapChanged => 3
  | .positionNone => 4
  | .noReel => 5
  | .acquireFail => 6
  | .reversal => 7
  | .frameLost => 8
  | .missedMark => 9
  | .sliver => 10
  | .trackMismatch => 11
  | .reelFull => 12
  | .sampleOverflow => 13
  | .tableRepaired => 14
  | .listLow => 15
  | .listEmpty => 16
  | .missingSheet => 17
  | .lateRetake => 18
  | .earlyRelease => 19
  | .unlistedFrame => 20
  | .jam => 21
  | .doneTimeout => 22
  | .strayDone => 23

/-- The set that holds one event. -/
def eventBit (e : Event) : EventSet := 1#24 <<< eventCode e

/-- Whether an event is in a set. -/
def eventIn (e : Event) (set : EventSet) : Bool := set.getLsbD (eventCode e)

/-- A set of events from its members. -/
def eventSetOf (es : List Event) : EventSet := es.foldl (fun set e => set ||| eventBit e) 0#24

/-- The three bytes of the event-set form (R205): byte 0 holds codes 23..16, byte 2 codes 7..0. -/
def eventSetBytes (set : EventSet) : List Byte := be24 set.toNat

/-- The set that three bytes in the event-set form name (R205). -/
def readEventSet (bs : List Byte) : EventSet := BitVec.ofNat 24 (readBe bs)

/-- The cause byte of a NOTICE (R205). -/
def causeByte : Option Event → List Byte
  | some e => be8 (eventCode e)
  | none => be8 255

/-- A bit at a place. -/
def bitAt (b : Bool) (k : Nat) : Nat := if b then 2 ^ k else 0

/-- The halt reason set as one byte (R205). -/
def haltBits (h : HaltSet) : Nat :=
  bitAt h.output 0 + bitAt h.jam 1 + bitAt h.list 2 + bitAt h.lost 3

/-- The flag set of a CARD instruction as a number (R203). -/
def cardFlagBits (f : SlotFlags) (textCut reissued : Bool) : Nat :=
  bitAt f.retake 0 + bitAt f.lateRetake 1 + bitAt f.short 2 + bitAt f.early 3 + bitAt f.suspect 4 +
  bitAt f.oversize 5 + bitAt f.markInferred 6 + bitAt f.pitchEstimated 7 + bitAt f.sampleOverflow 8 +
  bitAt f.poor 9 + bitAt textCut 10 + bitAt reissued 11

/-- Status codes (R208). -/
def statusCode : Status → Nat
  | .ok => 0
  | .badLength => 1
  | .badValue => 2
  | .sequence => 3
  | .listFull => 4
  | .mode => 5
  | .busy => 6
  | .state => 7
  | .unknown => 8

/-- Station mode codes (R208). -/
def modeCode : StationMode → Nat
  | .bypass => 0
  | .pass => 1
  | .convert => 2

/-- Line path codes (R209). -/
def pathCode : LinePath → Nat
  | .through => 0
  | .stored => 1

/-- Alignment codes (R209). -/
def alignmentCode : Alignment → Nat
  | .hunt => 0
  | .locked => 1

/-- Tracker state codes (R209). -/
def trackerStateCode : TrackerState → Nat
  | .idle => 0
  | .acquire => 1
  | .tracking => 2
  | .rewound => 3
  | .lost => 4
  | .full => 5

/-- Polarity codes (R201). -/
def polarityCode : Polarity → Nat
  | .negative => 0
  | .positive => 1

/-- Sample format codes (R201). -/
def formatCode : SampleFormat → Nat
  | .w16 => 0
  | .w12 => 1
  | .w8p => 2

/-- Mark class codes (R201). -/
def markCode : MarkClass → Nat
  | .doc => 0
  | .sheet => 1
  | .retake => 2
  | .target => 3
  | .unknown => 4

/-- Density class codes (R209). -/
def densityClassCode : DensityClass → Nat
  | .unmeasured => 0
  | .blank => 1
  | .thin => 2
  | .dense => 3
  | .flat => 4
  | .good => 5

/-- Waste reason codes (R203). -/
def wasteReasonCode : WasteReason → Nat
  | .leader => 0
  | .sliver => 1
  | .target => 2
  | .blank => 3
  | .superseded => 4

/-- The drawing state code of an open drawing or none (R208). -/
def drawingStateCode : Option Drawing → Nat
  | none => 0
  | some d => if d.entry.isSome then 1 else 2

/-- Polarity from its code (R5): any code but POSITIVE's is NEGATIVE. -/
def polarityOf (b : Byte) : Polarity := if b = 1#8 then .positive else .negative

/-- Sample format from its code (R5): any undefined code is W16. -/
def formatOf (b : Byte) : SampleFormat :=
  if b = 1#8 then .w12 else if b = 2#8 then .w8p else .w16

/-- Mark class from its code (R3): any undefined code is UNKNOWN. -/
def markOf (b : Byte) : MarkClass :=
  if b = 0#8 then .doc else if b = 1#8 then .sheet else if b = 2#8 then .retake
  else if b = 3#8 then .target else .unknown

/-- Field from its code (R207). -/
def fieldOf (b : Byte) : Option Field :=
  if b = 0#8 then some .drawing else if b = 1#8 then some .sheet else if b = 2#8 then some .revision
  else if b = 3#8 then some .title else if b = 4#8 then some .frameRef else if b = 5#8 then some .note
  else none

/-- Justification from its code (R207). -/
def justificationOf (b : Byte) : Option Justification :=
  if b = 0#8 then some .left else if b = 1#8 then some .right else none

/-- The empty halt reason set. -/
def noHalt : HaltSet := { output := false, jam := false, list := false, lost := false }

/-- Whether a reason is in the halt reason set. -/
def haltHas (h : HaltSet) : HaltReason → Bool
  | .output => h.output
  | .jam => h.jam
  | .list => h.list
  | .lost => h.lost

/-- The halt reason set with one reason put in or taken out. -/
def haltPut (h : HaltSet) (k : HaltReason) (b : Bool) : HaltSet :=
  match k with
  | .output => { h with output := b }
  | .jam => { h with jam := b }
  | .list => { h with list := b }
  | .lost => { h with lost := b }

/-- One advance of a counter: it saturates at 65535 (R196). -/
def saturate (n : Nat) : Nat := if n < 65535 then n + 1 else n

/-- The counters with one of them advanced (R196). -/
def advanceCounter (k : Counter) (c : Counters) : Counters :=
  match k with
  | .framesAccepted => { c with framesAccepted := saturate c.framesAccepted }
  | .replaysSkipped => { c with replaysSkipped := saturate c.replaysSkipped }
  | .duplicates => { c with duplicates := saturate c.duplicates }
  | .cards => { c with cards := saturate c.cards }
  | .wastes => { c with wastes := saturate c.wastes }
  | .superseded => { c with superseded := saturate c.superseded }
  | .lostFrames => { c with lostFrames := saturate c.lostFrames }
  | .unconfirmed => { c with unconfirmed := saturate c.unconfirmed }
  | .strays => { c with strays := saturate c.strays }
  | .jamLost => { c with jamLost := saturate c.jamLost }
  | .checkFails => { c with checkFails := saturate c.checkFails }
  | .forwardOverflows => { c with forwardOverflows := saturate c.forwardOverflows }
  | .droppedCommands => { c with droppedCommands := saturate c.droppedCommands }
  | .badScanLines => { c with badScanLines := saturate c.badScanLines }
  | .ignoredInIdle => { c with ignoredInIdle := saturate c.ignoredInIdle }

/-- The 15 counters in the order of R196. -/
def counterValues (c : Counters) : List Nat :=
  [c.framesAccepted, c.replaysSkipped, c.duplicates, c.cards, c.wastes, c.superseded, c.lostFrames, c.unconfirmed,
   c.strays, c.jamLost, c.checkFails, c.forwardOverflows, c.droppedCommands, c.badScanLines, c.ignoredInIdle]

/-- The 18 settings as the numbers LOAD_SETTINGS and READ_STATUS carry, in the order of R173 (R207, R209). -/
def settingValues (v : Settings) : List Nat :=
  [v.nMin, v.cBlank, v.cMin, v.dbLow, v.dbHigh, v.pitchMin, v.pitchMax, v.trackTol,
   if v.countInvalid then 1 else 0, if v.poorReject then 1 else 0, if v.suspectReject then 1 else 0,
   v.flushTime, v.doneTime, v.creditLimit, v.burstLimit, v.stopLevel, v.goLevel, v.listLow]

end Sys2Proof.Machine
end

