-- ==== Sys2Proof/Machine/PowerOn.lean ====
section
/-! DEFINITION. The power-on values of the tables, the settings, the masks and the eight blocks (R1, R29, R36, R49, R67,
R99, R107, R112, R120, R147, R173, R187, R188, R196). -/

namespace Sys2Proof.Machine

/-- The default density table (R36). -/
def defaultDensityTable : List Nat :=
  [400, 181, 151, 133, 120, 111, 103, 96, 90, 85, 81, 76, 73, 69, 66, 63,
   60, 58, 55, 53, 51, 48, 46, 44, 43, 41, 39, 37, 36, 34, 33, 31] ++
  [30, 29, 27, 26, 25, 24, 23, 22, 20, 19, 18, 17, 16, 15, 14, 13,
   12, 12, 11, 10, 9, 8, 7, 7, 6, 5, 4, 4, 3, 2, 1, 1, 0]

/-- Empty accumulators (R29). -/
def emptyAccumulators : Accumulators := { n := 0, sum := 0, dmin := none, dmax := none, overflow := false }

/-- The default field map (R107). -/
def defaultFieldMap : List Placement :=
  [{ field := .drawing, first := 1, width := 24, justify := .left },
   { field := .sheet, first := 26, width := 5, justify := .right },
   { field := .revision, first := 32, width := 3, justify := .left },
   { field := .frameRef, first := 36, width := 10, justify := .left },
   { field := .note, first := 47, width := 3, justify := .left },
   { field := .title, first := 51, width := 30, justify := .left }]

/-- The row set of one row (R204): 12 and 11 are the upper rows, 0 the zero row, 1..9 the digit rows. -/
def rowBit (row : Nat) : Pattern :=
  if row = 12 then 1#12 <<< 11 else if row = 11 then 1#12 <<< 10 else 1#12 <<< (9 - row)

/-- The default pattern of a card alphabet code (R112). -/
def defaultPattern (code : Nat) : Pattern :=
  if 0x30 ≤ code ∧ code ≤ 0x39 then rowBit (code - 0x30)
  else if 0x41 ≤ code ∧ code ≤ 0x49 then rowBit 12 ||| rowBit (code - 0x40)
  else if 0x4A ≤ code ∧ code ≤ 0x52 then rowBit 11 ||| rowBit (code - 0x49)
  else if 0x53 ≤ code ∧ code ≤ 0x5A then rowBit 0 ||| rowBit (code - 0x51)
  else 0#12

/-- The default punch code table: 64 patterns, code 0x20 first (R112). -/
def defaultPunch : List Pattern := (List.range 64).map (fun k => defaultPattern (0x20 + k))

/-- The default settings (R173). -/
def defaultSettings : Settings :=
  { nMin := 64, cBlank := 20, cMin := 60, dbLow := 80, dbHigh := 200, pitchMin := 300, pitchMax := 600,
    trackTol := 30, countInvalid := false, poorReject := true, suspectReject := false, flushTime := 20,
    doneTime := 40, creditLimit := 4, burstLimit := 4, stopLevel := 16, goLevel := 8, listLow := 4 }

/-- The events of severity W, masked by default (R188). -/
def severityW : List Event :=
  [.checkFail, .strapChanged, .positionNone, .noReel, .acquireFail, .reversal, .missedMark, .sliver, .trackMismatch,
   .sampleOverflow, .tableRepaired, .listLow, .missingSheet, .lateRetake, .earlyRelease, .unlistedFrame, .strayDone]

/-- All counters 0 (R196). -/
def zeroCounters : Counters :=
  { framesAccepted := 0, replaysSkipped := 0, duplicates := 0, cards := 0, wastes := 0, superseded := 0,
    lostFrames := 0, unconfirmed := 0, strays := 0, jamLost := 0, checkFails := 0, forwardOverflows := 0,
    droppedCommands := 0, badScanLines := 0, ignoredInIdle := 0 }

/-- The line port at power-on, the strap identity read from the pins (R147, R149). Nothing is being sent and no place is kept
(DEDUCED, notes/assumptions/24.md). -/
def powerOnLine (pins : BitVec 4) : LinePort :=
  { mode := .bypass, path := .through, alignment := .hunt, goodRun := 0, badRun := 0, position := none, strap := pins,
    forward := [], control := [], replyReserved := false, burst := 0, sending := none }

/-- The frame tracker at power-on (R1). -/
def powerOnTracker : FrameTracker :=
  { state := .idle, reel := none, pitchChecking := true, lastMark := none, nextNew := 0, frameCounter := 0,
    assembly := none, buffer := [], closeCount := 0 }

/-- The density unit at power-on (R29). -/
def powerOnDensity : DensityUnit := { table := defaultDensityTable, acc := emptyAccumulators, last := none }

/-- The drawing list at power-on (R49). -/
def powerOnList : DrawingList := { entries := [], expected := none }

/-- The matching engine at power-on (R67). -/
def powerOnMatching : MatchingEngine :=
  { hold := [], drawing := none, recent := none, serial := 0, flushTimer := none }

/-- The card composer at power-on (R99). -/
def powerOnComposer : CardComposer := { fieldMap := defaultFieldMap, punch := defaultPunch }

/-- The output controller at power-on (R120). -/
def powerOnOutput : OutputController :=
  { queue := [], nextSeq := 0, inFlight := [], jam := none, held := false, halt := noHalt }

/-- The command unit at power-on (R169, R187, R196). -/
def powerOnCommand : CommandUnit :=
  { settings := defaultSettings, latched := 0#24, mask := eventSetOf severityW, arming := false,
    counters := zeroCounters }

end Sys2Proof.Machine
end

