-- ==== Sys2Proof/Machine/State.lean ====
section
/-! DEFINITION. The machine's state: the eight blocks, the signals, and the queue of commands that wait. -/

namespace Sys2Proof.Machine

/-- Reasons to stop with a fault. The spec gives every command an effect in every state and names no condition that
stops the part, so there is none (safe: nothing is said of a machine that has stopped). -/
inductive Fault where
  deriving DecidableEq, Repr

/-- Reasons to refuse a command. -/
inductive Refusal where
  /-- Raised by an arm of exec whose command has no meaning yet (safe). No arm raises it: every command has one. -/
  | notModelled (mnemonic : String)
  deriving DecidableEq, Repr

/-- The state of the PJC24 (00_scope.md, Block diagram). -/
structure State where
  signals     : Signals
  line        : LinePort
  tracker     : FrameTracker
  density     : DensityUnit
  list        : DrawingList
  matching    : MatchingEngine
  composer    : CardComposer
  output      : OutputController
  command     : CommandUnit
  /-- MODEL's own: how many open choices have been taken (the argument of Config.flushExpiryFirst). -/
  openChoices : Nat
  /-- MODEL's own: the commands that wait, first in, first out. -/
  pending     : List Instr
  deriving DecidableEq, Repr

/-- Every element of every block at its power-on value, with this value on STRAP_ID (R148). -/
def State.powerOn (pins : BitVec 4) (openChoices : Nat) (pending : List Instr) : State :=
  { signals := { nrstLow := false, strapPins := pins }, line := powerOnLine pins, tracker := powerOnTracker,
    density := powerOnDensity, list := powerOnList, matching := powerOnMatching, composer := powerOnComposer,
    output := powerOnOutput, command := powerOnCommand, openChoices := openChoices, pending := pending }

/-- The machine right after power-on. DESIGN CHOICE: the strap pins, an input, read 0 (notes/assumptions/14.md). -/
def State.reset : State := State.powerOn 0#4 0 []

end Sys2Proof.Machine
end

