-- ==== Sys2Proof/Machine/Ops.lean ====
section
/-! DEFINITION. The named operations that every block uses: counters, events and notices, the control queue, replies, halt
reports, the forward queue, and the resets. -/

namespace Sys2Proof.Machine

/-! Counters (R196). -/

/-- A condition advances its counter by one; the counter saturates (R196). -/
def advance (k : Counter) (s : State) : State :=
  { s with command.counters := advanceCounter k s.command.counters }

/-! The control queue (R162, R163). -/

/-- Records other than the halt report that wait in the control queue (R163). -/
def otherControl (l : LinePort) : Nat := (l.control.filter (fun c => !c.halt)).length

/-- The room test of R163: seven records other than the halt report, a reserved place among them, must not be waiting. -/
def controlRoom (l : LinePort) : Bool :=
  decide (otherControl l + (if l.replyReserved then 1 else 0) < controlPlaces)

/-- The source of a record the station originates: its position, or 255 without one (R145), as it stands when the record is
queued (DEDUCED, notes/assumptions/4.md). -/
def originSource (l : LinePort) : Byte :=
  match l.position with
  | some p => BitVec.ofNat 8 p
  | none => srcNone

/-- A record other than the halt report joins the tail of the control queue (R162). -/
def queueControl (r : Record) (s : State) : State :=
  { s with line.control := s.line.control ++ [{ halt := false, record := r }] }

/-- The place in the control queue that a command keeps for the record it will queue (R163, R194). -/
def reservePlace (s : State) : State := { s with line.replyReserved := true }

/-- The reserved place is given up (R163). -/
def freePlace (s : State) : State := { s with line.replyReserved := false }

/-! Events and notices (R187 to R195). -/

/-- The latched events that are not masked (R193). -/
def unmaskedLatched (c : CommandUnit) : EventSet := c.latched &&& ~~~c.mask

/-- The NOTICE of this moment with its cause (R193, R205). -/
def noticeRecord (cause : Option Event) (s : State) : Record :=
  { kind := kindNotice, dst := dstConsole, src := originSource s.line,
    payload := eventSetBytes (unmaskedLatched s.command) ++ causeByte cause }

/-- Whether the notice test of R193 queues a NOTICE: armed, an unmasked event latched, in PASS or CONVERT, with room. -/
def noticeFalls (s : State) : Bool :=
  s.command.arming && decide (unmaskedLatched s.command ≠ 0#24) && decide (s.line.mode ≠ .bypass) &&
    controlRoom s.line

/-- The notice test (R193): the NOTICE joins the control queue and arming becomes OFF, or nothing changes. -/
def noticeTest (cause : Option Event) (s : State) : State :=
  if noticeFalls s then
    let q := queueControl (noticeRecord cause s) s
    { q with command.arming := false }
  else s

/-- An event occurs (R189): it joins the latched set, and an unmasked one that meets an armed station is tested for a
notice with itself as cause (R192). -/
def occur (e : Event) (s : State) : State :=
  let latched := { s with command.latched := s.command.latched ||| eventBit e }
  if s.command.arming && !eventIn e s.command.mask then noticeTest (some e) latched else latched

/-! Replies (R170, R208). -/

/-- The REPLY to a command code from a source (R170, R208). -/
def replyRecord (src code : Byte) (status : Status) (data : List Byte) (s : State) : Record :=
  { kind := kindReply, dst := src, src := originSource s.line,
    payload := code :: be8 (statusCode status) ++ data }

/-- The REPLY takes the place reserved for it in the control queue (R163, R170). -/
def reply (src code : Byte) (status : Status) (data : List Byte) (s : State) : State :=
  freePlace (queueControl (replyRecord src code status data s) s)

/-! The halt reason set and its reports (R138 to R142). -/

/-- The HALT or FEED record for the set as it stands (R140, R142). -/
def haltRecord (s : State) : Record :=
  if s.output.halt = noHalt then
    { kind := kindFeed, dst := dstReader, src := originSource s.line, payload := [] }
  else
    { kind := kindHalt, dst := dstReader, src := originSource s.line, payload := be8 (haltBits s.output.halt) }

/-- The halt report in the control queue (R141): it replaces the waiting one in place, or joins the tail. -/
def placeHaltReport (r : Record) (q : List ControlItem) : List ControlItem :=
  if q.any (fun c => c.halt) then
    q.map (fun c => if c.halt then { c with record := r } else c)
  else q ++ [{ halt := true, record := r }]

/-- A request to set or clear a halt reason (R138): a request that changes the set is followed by its halt report
(R140). -/
def requestHalt (k : HaltReason) (b : Bool) (s : State) : State :=
  if haltHas s.output.halt k = b then s
  else
    let changed := { s with output.halt := haltPut s.output.halt k b }
    { changed with line.control := placeHaltReport (haltRecord changed) changed.line.control }

/-- The OUTPUT test, made at each change of the output queue's length (R139). -/
def outputTest (s : State) : State :=
  let n := s.output.queue.length
  if s.command.settings.stopLevel ≤ n then requestHalt .output true s
  else if n ≤ s.command.settings.goLevel then requestHalt .output false s
  else s

/-! The forward queue (R160, R161). -/

/-- Bytes in use in the forward queue (R161). -/
def forwardUsed (l : LinePort) : Nat := (l.forward.map recordLength).sum

/-- A record to pass on joins the tail of the forward queue if it fits; else it is discarded with FWD_OVERFLOW (R160). -/
def forwardRecord (r : Record) (s : State) : State :=
  if forwardUsed s.line + recordLength r ≤ forwardBytes then
    { s with line.forward := s.line.forward ++ [r] }
  else occur .fwdOverflow (advance .forwardOverflows s)

/-! Resets (R148, R182). -/

/-- Power-on and the release of NRST: every element of every block takes its power-on value (R148). -/
def powerOnState (pins : BitVec 4) (s : State) : State := State.powerOn pins s.openChoices s.pending

/-- What STATION_RESET and LEAVE do alike to the blocks other than the line port (R157, R182). -/
def resetBlocks (s : State) : State :=
  { s with
    tracker := powerOnTracker
    density := { s.density with acc := emptyAccumulators, last := none }
    matching := { s.matching with hold := [], drawing := none, recent := none, flushTimer := none }
    output := { s.output with queue := [], inFlight := [], jam := none, held := false, halt := noHalt }
    command := { s.command with counters := zeroCounters } }

/-! Shared tests. -/

/-- Whether a destination or source byte is the station's position (R153). -/
def isPosition (l : LinePort) (b : Byte) : Bool := decide (l.position = some b.toNat)

/-- The mode test of the four loads (R176). -/
def inConvert (s : State) : Bool := decide (s.line.mode = .convert)

end Sys2Proof.Machine
end

