-- ==== Sys2Proof/Machine/Operands.lean ====
section
/-! DEFINITION. The payloads of the records that the part takes and the operands of its commands (R201, R202, R205 to
R207). -/

namespace Sys2Proof.Machine

/-! Payloads that the senders of REEL, MARK, DONE and ROLL lay out (R201, R205). -/

/-- The payload of a REEL (R201). -/
def reelPayload (number : BitVec 16) (polarity format linePitch : Byte) (counter : BitVec 24) : List Byte :=
  be16 number.toNat ++ [polarity, format, linePitch] ++ be24 counter.toNat

/-- The payload of a MARK (R201). -/
def markPayload (cls : Byte) (counter : BitVec 24) : List Byte := cls :: be24 counter.toNat

/-- The payload of a DONE (R205). -/
def donePayload (seq : BitVec 16) (result : Byte) : List Byte := be16 seq.toNat ++ [result]

/-! Reel parameters (R5). -/

/-- The reel parameters a REEL payload of eight bytes gives, each brought into range (R5, R201). -/
def readReel (payload : List Byte) : ReelParams :=
  let l := readBe ((payload.drop 4).take 1)
  { number := min (readBe (payload.take 2)) 9999
    polarity := polarityOf (payload.getD 2 0#8)
    format := formatOf (payload.getD 3 0#8)
    linePitch := if l = 0 then 1 else min l 20
    counterAtLoad := readBe ((payload.drop 5).take 3) }

/-! Samples (R32, R202). -/

/-- A sample as the density unit takes it: its normalised value and whether it is invalid (R32, R33). -/
structure Sample where
  value   : Nat
  invalid : Bool
  deriving DecidableEq, Repr

/-- Bytes that the samples of a SCAN occupy (R202). -/
def sampleBytes (format : SampleFormat) (n : Nat) : Nat :=
  match format with
  | .w16 => 2 * n
  | .w12 => 2 * n
  | .w8p => 2 * ((n + 1) / 2)

/-- A W12 word: bit 15 invalid, the low 12 bits times 16 (R32, R202). -/
def w12Sample (w : Nat) : Sample := { value := w % 4096 * 16, invalid := decide (32768 ≤ w) }

/-- The samples of a SCAN in the order they stand in the record, by the sample format (R32, R34). -/
def readSamples (format : SampleFormat) (n : Nat) (body : List Byte) : List Sample :=
  match format with
  | .w16 => ((words16 body).take n).map (fun w => { value := w, invalid := false })
  | .w12 => ((words16 body).take n).map w12Sample
  | .w8p => (body.take n).map (fun b => { value := b.toNat * 256, invalid := false })

/-- The samples of a SCAN payload that is no bad scan line (R14, R202); none: a bad scan line. -/
def readScan (format : SampleFormat) (payload : List Byte) : Option (List Sample) :=
  match payload with
  | [] => none
  | count :: body =>
    let n := count.toNat
    if 8 ≤ n ∧ n ≤ 64 ∧ body.length = sampleBytes format n then some (readSamples format n body) else none

/-! LOAD_SETTINGS (R173, R174, R207). -/

/-- The ranges of the 18 settings in the order of R173. -/
def settingRanges : List (Nat × Nat) :=
  [(1, 8192), (0, 400), (0, 400), (0, 400), (0, 400), (50, 2000), (100, 4000), (0, 500), (0, 1), (0, 1), (0, 1),
   (0, 255), (1, 255), (1, 8), (1, 32), (1, 24), (0, 23), (0, 255)]

/-- A value clamped into a range (R174, step 3). -/
def clamp (range : Nat × Nat) (v : Nat) : Nat := if v < range.1 then range.1 else if range.2 < v then range.2 else v

/-- The values clamped into their settings' ranges (R174, step 3). -/
def clampSettings (vs : List Nat) : List Nat := List.zipWith clamp settingRanges vs

/-- How many values the clamping changed (R174). -/
def changedCount (before after : List Nat) : Nat :=
  ((before.zip after).filter (fun p => decide (p.1 ≠ p.2))).length

/-- The settings from 18 values in the order of R173. -/
def settingsOf : List Nat → Option Settings
  | [a, b, c, d, e, f, g, h, i, j, k, l, m, n, o, p, q, r] =>
    some { nMin := a, cBlank := b, cMin := c, dbLow := d, dbHigh := e, pitchMin := f, pitchMax := g, trackTol := h,
           countInvalid := decide (i = 1), poorReject := decide (j = 1), suspectReject := decide (k = 1),
           flushTime := l, doneTime := m, creditLimit := n, burstLimit := o, stopLevel := p, goLevel := q,
           listLow := r }
  | _ => none

/-- The first consistency condition of R174 that holds, 1 to 4; 0 when none holds. -/
def inconsistency (v : Settings) : Nat :=
  if v.pitchMax ≤ v.pitchMin then 1
  else if v.cMin < v.cBlank then 2
  else if v.dbHigh < v.dbLow then 3
  else if v.stopLevel ≤ v.goLevel then 4
  else 0

/-! LOAD_FIELDS (R107, R108, R207). -/

/-- A placement as it stands in the operand, before fitting. -/
structure RawPlacement where
  field   : Byte
  first   : Byte
  width   : Byte
  justify : Byte
  deriving DecidableEq, Repr

/-- The placements of an operand after its count byte, four bytes each (R207). -/
def readPlacements : List Byte → List RawPlacement
  | f :: c :: w :: j :: rest => { field := f, first := c, width := w, justify := j } :: readPlacements rest
  | _ => []

/-- A placement that passes the value check of R108, fitted to the card; none when it fails. -/
def fitPlacement (p : RawPlacement) : Option Placement :=
  match fieldOf p.field, justificationOf p.justify with
  | some f, some j =>
    if 1 ≤ p.first.toNat ∧ p.first.toNat ≤ 80 ∧ 1 ≤ p.width.toNat then
      some { field := f, first := p.first.toNat, width := min p.width.toNat (81 - p.first.toNat), justify := j }
    else none
  | _, _ => none

/-- Whether fitting reduces the width of a placement (R108). -/
def isReduced (p : RawPlacement) : Bool := decide (80 < p.first.toNat + p.width.toNat - 1)

/-- The fitted placements, or the position (from `pos`) of the first that fails its value check (R108). -/
def fitPlacements (pos : Nat) : List RawPlacement → Except Nat (List Placement)
  | [] => .ok []
  | p :: rest =>
    match fitPlacement p with
    | none => .error pos
    | some q =>
      match fitPlacements (pos + 1) rest with
      | .error k => .error k
      | .ok qs => .ok (q :: qs)

/-! LIST_APPEND (R53, R54, R55, R207). -/

/-- An entry as it stands in the operand. -/
structure RawEntry where
  drawing    : List Byte
  revision   : List Byte
  sheetCount : Nat
  title      : List Byte
  deriving DecidableEq, Repr

/-- A text field with its length byte in front, and what follows it; none when the bytes end inside it (R199, R207). -/
def readText : List Byte → Option (List Byte × List Byte)
  | [] => none
  | len :: rest => if len.toNat ≤ rest.length then some (rest.take len.toNat, rest.drop len.toNat) else none

/-- One entry and what follows it; none when the bytes end inside it (R207). -/
def readEntry (bs : List Byte) : Option (RawEntry × List Byte) :=
  match readText bs with
  | none => none
  | some (drawing, bs1) =>
    match readText bs1 with
    | none => none
    | some (_, []) => none
    | some (revision, sheets :: bs2) =>
      match readText bs2 with
      | none => none
      | some (title, rest) =>
        some ({ drawing := drawing, revision := revision, sheetCount := sheets.toNat, title := title }, rest)

/-- As many entries as announced, with nothing left over; none otherwise (R53). -/
def readEntries : Nat → List Byte → Option (List RawEntry)
  | 0, [] => some []
  | 0, _ :: _ => none
  | k + 1, bs =>
    match readEntry bs with
    | none => none
    | some (e, rest) =>
      match readEntries k rest with
      | none => none
      | some es => some (e :: es)

/-- The first list number and the entries of a LIST_APPEND operand; none: BAD_LENGTH (R53). -/
def readAppend : List Byte → Option (Nat × List RawEntry)
  | hi :: lo :: count :: body =>
    if 1 ≤ count.toNat ∧ count.toNat ≤ 64 then
      match readEntries count.toNat body with
      | none => none
      | some es => some (readBe [hi, lo], es)
    else none
  | _ => none

/-- Whether an entry passes the value check of R54. -/
def entryValid (e : RawEntry) : Bool :=
  decide (1 ≤ e.drawing.length ∧ e.drawing.length ≤ 24 ∧ e.revision.length ≤ 3 ∧ e.title.length ≤ 40 ∧
    1 ≤ e.sheetCount ∧ e.sheetCount ≤ 32)

/-- The position (from `pos`) of the first entry that fails its value check (R54). -/
def firstInvalid (pos : Nat) : List RawEntry → Option Nat
  | [] => none
  | e :: es => if entryValid e then firstInvalid (pos + 1) es else some pos

/-- A byte brought into the card alphabet: kept, folded or substituted (R55). -/
def foldByte (b : Byte) : Byte :=
  if 0x20 ≤ b.toNat ∧ b.toNat ≤ 0x5F then b
  else if 0x61 ≤ b.toNat ∧ b.toNat ≤ 0x7A then b - 0x20#8
  else 0x3F#8

/-- Whether a byte is replaced by substitution (R55). -/
def isSubstituted (b : Byte) : Bool :=
  decide (¬(0x20 ≤ b.toNat ∧ b.toNat ≤ 0x5F) ∧ ¬(0x61 ≤ b.toNat ∧ b.toNat ≤ 0x7A))

/-- Bytes of an entry replaced by substitution (R55). -/
def substitutions (e : RawEntry) : Nat := ((e.drawing ++ e.revision ++ e.title).filter isSubstituted).length

/-- An entry as it joins the list, with its list number (R55, R57). -/
def convertEntry (number : Nat) (e : RawEntry) : Entry :=
  { listNumber := number, drawing := e.drawing.map foldByte, revision := e.revision.map foldByte,
    sheetCount := e.sheetCount, title := e.title.map foldByte }

/-- The entries of an append with consecutive list numbers modulo 65536 (R57, step 1). -/
def convertEntries (first : Nat) : List RawEntry → List Entry
  | [] => []
  | e :: es => convertEntry (first % 65536) e :: convertEntries (first + 1) es

end Sys2Proof.Machine
end

