-- ==== Sys2Proof/Machine/Density.lean ====
section
/-! DEFINITION. The density unit: the density of a sample, the accumulators, the frame result and the repair of a loaded
table (chapter 2, R31 to R48). -/

namespace Sys2Proof.Machine

/-- The density of a sample with normalised value s, by linear interpolation in the table (R40). -/
def sampleDensity (table : List Nat) (s : Nat) : Nat :=
  let i := s / 1024
  let f := s % 1024
  let drop := table.getD i 0 - table.getD (i + 1) 0
  table.getD i 0 - (drop * f + 512) / 1024

/-- A counted sample of density D added to accumulators whose count is below the cap (R42). -/
def accumulate (d : Nat) (a : Accumulators) : Accumulators :=
  { a with
    n := a.n + 1
    sum := a.sum + d
    dmin := some (match a.dmin with | none => d | some x => min x d)
    dmax := some (match a.dmax with | none => d | some x => max x d) }

/-- Whether a sample is counted (R33). -/
def isCounted (v : Settings) (x : Sample) : Bool := !x.invalid || v.countInvalid

/-- One sample taken: left out, added to the accumulators, or ignored with SAMPLE_OVERFLOW at the cap (R33, R42). -/
def takeSample (x : Sample) (s : State) : State :=
  if isCounted s.command.settings x then
    if s.density.acc.n < sampleCap then
      { s with density.acc := accumulate (sampleDensity s.density.table x.value) s.density.acc }
    else occur .sampleOverflow { s with density.acc.overflow := true }
  else s

/-- The samples of a scan line, one at a time in their order (R31). -/
def takeSamples : List Sample → State → State
  | [], s => s
  | x :: xs, s => takeSamples xs (takeSample x s)

/-- The accumulators are emptied (R43). -/
def emptyAcc (s : State) : State := { s with density.acc := emptyAccumulators }

/-- Dmean: the mean rounded half up (R44). -/
def meanDensity (a : Accumulators) : Nat := (a.sum + a.n / 2) / a.n

/-- The contrast by the reel's polarity (R45). -/
def contrastOf (p : Polarity) (dmin dmean dmax : Nat) : Nat :=
  match p with
  | .negative => dmean - dmin
  | .positive => dmax - dmean

/-- The class of a frame with at least n_min counted samples: the first row of R46 that holds. -/
def measuredClass (v : Settings) (c dmean : Nat) : DensityClass :=
  if c < v.cBlank then .blank
  else if dmean < v.dbLow then .thin
  else if v.dbHigh < dmean then .dense
  else if c < v.cMin then .flat
  else .good

/-- The density result of a frame from its accumulators (R44 to R46). -/
def densityResult (v : Settings) (p : Polarity) (a : Accumulators) : DensityResult :=
  if a.n < v.nMin then
    { n := a.n, dmin := 0, dmean := 0, dmax := 0, contrast := 0, cls := .unmeasured, overflow := a.overflow }
  else
    let dmin := a.dmin.getD 0
    let dmax := a.dmax.getD 0
    let dmean := meanDensity a
    let c := contrastOf p dmin dmean dmax
    { n := a.n, dmin := dmin, dmean := dmean, dmax := dmax, contrast := c, cls := measuredClass v c dmean,
      overflow := a.overflow }

/-! LOAD_DENSITY (R38). -/

/-- Clamping: every value above 400 becomes 400 (R38, pass 1). -/
def clampDensity (vs : List Nat) : List Nat := vs.map (fun v => min v 400)

/-- Repair upward: each value becomes the smallest of itself and the repaired one before it (R38, pass 2). -/
def repairFrom (before : Nat) : List Nat → List Nat
  | [] => []
  | v :: vs => min v before :: repairFrom (min v before) vs

/-- The repaired table of clamped values (R38). -/
def repairTable : List Nat → List Nat
  | [] => []
  | v :: vs => v :: repairFrom v vs

end Sys2Proof.Machine
end

