-- ==== Sys2Proof/Machine/Composer.lean ====
section
/-! DEFINITION. The card composer: fields, NOTE, card text, print line, punch image, disposition, and the CARD and WASTE
records (chapter 5; R203, R204). -/

namespace Sys2Proof.Machine

/-! Characters and numbers of the card alphabet. -/

/-- The space (0x20). -/
def space : Byte := 0x20#8

/-- The character of a decimal digit. -/
def digit (n : Nat) : Byte := BitVec.ofNat 8 (0x30 + n % 10)

/-- The `width` lowest decimal digits of a number, zero-padded. -/
def padded : Nat → Nat → List Byte
  | 0, _ => []
  | k + 1, n => padded k (n / 10) ++ [digit n]

/-- A number below 100000 in decimal without leading zeros. -/
def decimal (n : Nat) : List Byte :=
  if n < 10 then padded 1 n else if n < 100 then padded 2 n else if n < 1000 then padded 3 n
  else if n < 10000 then padded 4 n else padded 5 n

/-! The fields of a card (R104 to R106). -/

/-- The NOTE codes (R106). -/
def noteUNL : List Byte := [0x55#8, 0x4E#8, 0x4C#8]
def noteXTR : List Byte := [0x58#8, 0x54#8, 0x52#8]
def noteLRT : List Byte := [0x4C#8, 0x52#8, 0x54#8]
def noteERL : List Byte := [0x45#8, 0x52#8, 0x4C#8]
def noteSHT : List Byte := [0x53#8, 0x48#8, 0x54#8]
def noteSUS : List Byte := [0x53#8, 0x55#8, 0x53#8]
def notePOR : List Byte := [0x50#8, 0x4F#8, 0x52#8]
def noteRTK : List Byte := [0x52#8, 0x54#8, 0x4B#8]

/-- NOTE: the first condition of R106 that holds. -/
def noteText (b : Binding) (f : SlotFlags) : List Byte :=
  match b with
  | .except .unlisted => noteUNL
  | .except .extra => noteXTR
  | _ =>
    if f.lateRetake then noteLRT
    else if f.early then noteERL
    else if f.short then noteSHT
    else if f.suspect then noteSUS
    else if f.poor then notePOR
    else if f.retake then noteRTK
    else []

/-- SHEET (R105). -/
def sheetText : Binding → List Byte
  | .bound e _ sheet => decimal sheet ++ [0x2F#8] ++ decimal e.sheetCount
  | .unbound _ sheet => decimal sheet ++ [0x2F#8, 0x3F#8]
  | .except _ => []

/-- FRAME_REF (R105). -/
def frameRefText (reel number : Nat) : List Byte := padded 4 reel ++ [0x2E#8] ++ padded 5 number

/-- The text of a field for a CARD slot (R104 to R106). -/
def fieldText (reel number : Nat) (b : Binding) (f : SlotFlags) : Field → List Byte
  | .drawing => match b with | .bound e _ _ => e.drawing | _ => []
  | .revision => match b with | .bound e _ _ => e.revision | _ => []
  | .title => match b with | .bound e _ _ => e.title | _ => []
  | .sheet => sheetText b
  | .frameRef => frameRefText reel number
  | .note => noteText b f

/-! Card text (R109, R110). -/

/-- The cells that a placement writes: the text justified in the width, or its leftmost characters (R109, R110). -/
def placementCells (justify : Justification) (width : Nat) (text : List Byte) : List Byte :=
  if text.length ≤ width then
    match justify with
    | .left => text ++ List.replicate (width - text.length) space
    | .right => List.replicate (width - text.length) space ++ text
  else text.take width

/-- Cells written over a card text from a first column on. -/
def writeCells (first : Nat) (cells card : List Byte) : List Byte :=
  card.take (first - 1) ++ cells ++ card.drop (first - 1 + cells.length)

/-- 80 spaces (R109). -/
def blankCard : List Byte := List.replicate 80 space

/-- The card text: the placements applied one after another, in their order (R109). -/
def cardText (fields : Field → List Byte) (map : List Placement) : List Byte :=
  map.foldl (fun card p => writeCells p.first (placementCells p.justify p.width (fields p.field)) card) blankCard

/-- Whether a placement of the map cuts its text (R110). -/
def textIsCut (fields : Field → List Byte) (map : List Placement) : Bool :=
  map.any (fun p => decide (p.width < (fields p.field).length))

/-- The print line: the card text without its trailing spaces (R111). -/
def printLineOf (card : List Byte) : List Byte := (card.reverse.dropWhile (fun c => c == space)).reverse

/-! Punch image (R114, R115). -/

/-- The pattern of a character of the card text (R112, R114). -/
def patternOf (punch : List Pattern) (c : Byte) : Pattern := punch.getD (c.toNat - 0x20) 0#12

/-- The items of the column patterns, in column order: maximal runs of blank columns and literals (R115). -/
def punchItems : List Pattern → List PunchItem
  | [] => []
  | p :: ps =>
    if p = 0#12 then
      match punchItems ps with
      | .run k :: rest => .run (k + 1) :: rest
      | items => .run 1 :: items
    else .literal p :: punchItems ps

/-- The punch image of a card text (R114, R115). -/
def punchImage (punch : List Pattern) (card : List Byte) : List PunchItem :=
  punchItems (card.map (patternOf punch))

/-- The columns an item stands for (R115). -/
def itemColumns : PunchItem → Nat
  | .run k => k
  | .literal _ => 1

/-- The bytes of an item (R204). -/
def itemBytes : PunchItem → List Byte
  | .run k => be8 (128 + k)
  | .literal p => be16 p.toNat

/-! Disposition and rendering (R101 to R103, R117). -/

/-- The binding of the CARD instruction of a slot (R102). An UNBOUND slot has become an UNLISTED exception before it is
released (R105), so its line is met in no run (DESIGN CHOICE, notes/assumptions/21.md). -/
def cardBinding : Binding → CardBinding
  | .bound e _ sheet => .bound e.listNumber sheet e.sheetCount
  | .unbound _ _ => .unlisted
  | .except .unlisted => .unlisted
  | .except .extra => .extra

/-- The disposition of a CARD slot (R117). -/
def dispositionOf (v : Settings) (b : Binding) (f : SlotFlags) : Disposition :=
  match b with
  | .except _ => .reject
  | _ => if (f.poor && v.poorReject) || (f.suspect && v.suspectReject) then .reject else .mount

/-- The body of the instruction a slot is rendered into (R100 to R103). -/
def renderBody (v : Settings) (c : CardComposer) (slot : Slot) : InstructionBody :=
  match slot.body with
  | .waste reason => .waste reason
  | .card b f =>
    let fields := fieldText slot.reel slot.number b f
    let card := cardText fields c.fieldMap
    .card (dispositionOf v b f) (cardBinding b) f (textIsCut fields c.fieldMap) (printLineOf card)
      (punchImage c.punch card)

/-- The instruction of a released slot with its sequence (R100, R122). -/
def render (v : Settings) (c : CardComposer) (seq : Nat) (slot : Slot) : Instruction :=
  { seq := seq, reel := slot.reel, number := slot.number, counter := slot.counter, pitch := slot.pitch,
    reissued := false, body := renderBody v c slot }

/-- The counter that a rendering advances (R100). -/
def renderCounter (slot : Slot) : Counter :=
  match slot.body with
  | .waste _ => .wastes
  | .card _ _ => .cards

/-! The CARD and WASTE records (R203). -/

/-- The cut part (R203). -/
def cutPart (i : Instruction) : List Byte :=
  be16 i.seq ++ be16 i.reel ++ be16 i.number ++ be32 i.counter ++ be32 i.pitch

/-- The binding code, list number, sheet number and sheet count of a CARD (R203). -/
def bindingBytes : CardBinding → List Byte
  | .bound listNumber sheet sheetCount => be8 0 ++ be16 listNumber ++ be8 sheet ++ be8 sheetCount
  | .unlisted => be8 1 ++ be16 0 ++ be8 0 ++ be8 0
  | .extra => be8 2 ++ be16 0 ++ be8 0 ++ be8 0

/-- The disposition code (R203). -/
def dispositionByte : Disposition → List Byte
  | .mount => be8 0
  | .reject => be8 1

/-- The kind and payload of an instruction's record (R199, R203). -/
def instructionRecord (src : Byte) (i : Instruction) : Record :=
  match i.body with
  | .waste reason =>
    { kind := kindWaste, dst := dstMounter, src := src,
      payload := cutPart i ++ be8 (wasteReasonCode reason) ++ flag8 i.reissued }
  | .card disposition binding flags textCut printLine image =>
    { kind := kindCard, dst := dstMounter, src := src,
      payload := cutPart i ++ dispositionByte disposition ++ bindingBytes binding ++
        be32 (cardFlagBits flags textCut i.reissued) ++ be8 printLine.length ++ printLine ++
        image.flatMap itemBytes }

end Sys2Proof.Machine
end

