-- ==== Sys2Proof/Machine/Output.lean ====
section
/-! DEFINITION. Release into the output queue, and the output controller's exchange with the mounter (R90, R91, R93; chapter
6). -/

namespace Sys2Proof.Machine

/-! Release (R90, R91). -/

/-- The drawing serial of a slot; exception slots and WASTE slots have none (R69). -/
def slotSerial (slot : Slot) : Option Nat :=
  match slot.body with
  | .card (.bound _ serial _) _ => some serial
  | .card (.unbound serial _) _ => some serial
  | _ => none

/-- Whether a slot is a CARD slot of the drawing with this serial (R69). -/
def isCardOf (serial : Nat) (slot : Slot) : Bool := decide (slotSerial slot = some serial)

/-- Whether a slot is releasable (R90). -/
def isReleasable (m : MatchingEngine) (slot : Slot) : Bool :=
  match m.drawing with
  | none => true
  | some d => !isCardOf d.serial slot

/-- A slot that has left the hold queue is rendered and its instruction joins the tail of the output queue with the next
sequence; the OUTPUT test follows (R91, R100, R122). -/
def emitSlot (slot : Slot) (s : State) : State :=
  let i := render s.command.settings s.composer s.output.nextSeq slot
  let counted := advance (renderCounter slot) s
  outputTest { counted with
    output.queue := s.output.queue ++ [i]
    output.nextSeq := (s.output.nextSeq + 1) % 65536 }

/-- Release of the head slot when R91's conditions hold; none when they do not. -/
def releaseHead (s : State) : Option State :=
  match s.matching.hold with
  | [] => none
  | slot :: rest =>
    if isReleasable s.matching slot && decide (s.output.queue.length < outputRoom) then
      some (emitSlot slot { s with matching.hold := rest })
    else none

/-- Release repeated, at most `fuel` times. -/
def releaseUpTo : Nat → State → State
  | 0, s => s
  | fuel + 1, s =>
    match releaseHead s with
    | none => s
    | some t => releaseUpTo fuel t

/-- Release while R91's conditions hold: each release takes one held slot, so as many as are held is enough. -/
def release (s : State) : State := releaseUpTo s.matching.hold.length s

/-! Sending (R123). -/

/-- The credit and hold conditions of R123. -/
def maySend (s : State) : Bool :=
  decide (s.output.inFlight.length < s.command.settings.creditLimit) && !s.output.held

/-- Whether the output queue has a head and it is sendable (R123). -/
def headSendable (s : State) : Bool := !s.output.queue.isEmpty && maySend s

/-- The arbiter takes the head instruction: it joins the in-flight list with deadline done_time, the OUTPUT test is made
at the new length, and release is tested again (R122, R123; DEDUCED, notes/assumptions/10.md). -/
def takeInstruction (i : Instruction) (rest : List Instruction) (s : State) : State :=
  release (outputTest { s with
    output.queue := rest
    output.inFlight := s.output.inFlight ++ [{ instruction := i, deadline := s.command.settings.doneTime }] })

/-! Mounter reports (R125 to R131). -/

/-- An in-flight entry is written off as unconfirmed (R127, R131). -/
def writeOff (s : State) : State := occur .doneTimeout (advance .unconfirmed s)

/-- Each of the older entries is written off, from the oldest forward (R127). -/
def writeOffEach : List InFlight → State → State
  | [], s => s
  | _ :: es, s => writeOffEach es (writeOff s)

/-- Whether an in-flight entry has this sequence. -/
def hasSeq (seq : Nat) (e : InFlight) : Bool := e.instruction.seq == seq

/-- A stray report (R126, R153). -/
def strayDone (s : State) : State := occur .strayDone (advance .strays s)

/-- The matched entry is reported JAMMED (R129, R130). -/
def takeJam (i : Instruction) (s : State) : State :=
  match s.output.jam with
  | none =>
    let held := { s with output.jam := some i, output.held := true }
    occur .jam (requestHalt .jam true held)
  | some _ => occur .jam (advance .jamLost s)

/-- A DONE with a sequence and a result (R125 to R130). -/
def takeDone (seq : Nat) (jammed : Bool) (s : State) : State :=
  match s.output.inFlight.dropWhile (fun e => !hasSeq seq e) with
  | [] => strayDone s
  | e :: newer =>
    let older := s.output.inFlight.takeWhile (fun e => !hasSeq seq e)
    let t := writeOffEach older { s with output.inFlight := newer }
    if jammed then takeJam e.instruction t else t

/-- The done deadline of the entry with this sequence expires (R131); no such entry: nothing happens (R132). -/
def expireDeadline (seq : Nat) (s : State) : State :=
  if s.output.inFlight.any (hasSeq seq) then
    writeOff { s with output.inFlight := s.output.inFlight.eraseP (hasSeq seq) }
  else s

/-! Jams and resumption (R135, R136). -/

/-- The jam record empties, the output is no longer HELD, and the halt reason JAM is cleared (R135, R136). -/
def endHold (s : State) : State :=
  requestHalt .jam false { s with output.jam := none, output.held := false }

/-- REISSUE: the jammed instruction goes to the head of the output queue with the REISSUED mark (R135). -/
def reissue (i : Instruction) (s : State) : State :=
  release (outputTest (endHold { s with output.queue := { i with reissued := true } :: s.output.queue }))

/-- DROP: the jammed instruction is given up (R136). -/
def dropJammed (s : State) : State := endHold (advance .jamLost s)

end Sys2Proof.Machine
end

