-- ==== Sys2Proof/Machine/Matching.lean ====
section
/-! DEFINITION. The matching engine: taking a frame, drawings, binding, early release and the flush timer (chapter 4), with
the drawing list's removal at binding (R59, R60, R63). -/

namespace Sys2Proof.Machine

/-! The halt reason LIST (R73). -/

/-- Whether a drawing is OPEN_UNBOUND. -/
def openUnbound (m : MatchingEngine) : Bool :=
  match m.drawing with
  | some d => d.entry.isNone
  | none => false

/-- The engine reports LIST's value once, after it has finished taking an arrival (R73; DEDUCED, notes/assumptions/8.md). -/
def reportList (s : State) : State := requestHalt .list (openUnbound s.matching) s

/-! Slots. -/

/-- The last element that satisfies `p` changed by `g`; nothing when there is none. -/
def modifyNewest (p : Slot → Bool) (g : Slot → Slot) : List Slot → List Slot
  | [] => []
  | x :: xs => if p x && !xs.any p then g x :: xs else x :: modifyNewest p g xs

/-- The newest held CARD slot of the drawing with this serial (R78). -/
def newestCard (serial : Nat) (hold : List Slot) : Option Slot := hold.reverse.find? (isCardOf serial)

/-- A CARD slot with its flag set changed. -/
def withFlags (g : SlotFlags → SlotFlags) (slot : Slot) : Slot :=
  match slot.body with
  | .card b f => { slot with body := .card b (g f) }
  | .waste _ => slot

/-- A CARD slot made an exception: it keeps its flags and loses serial and sheet number (R69, R87, R88, R93). -/
def makeException (cause : ExceptionCause) (slot : Slot) : Slot :=
  match slot.body with
  | .card _ f => { slot with body := .card (.except cause) f }
  | .waste _ => slot

/-- The flags that a frame gives its CARD slot (R84), added to a flag set. -/
def addFrameFlags (f : ClosedFrame) (g : SlotFlags) : SlotFlags :=
  { g with
    oversize := g.oversize || decide (f.pitchClass = .long) || decide (f.pitchClass = .gap)
    suspect := g.suspect || decide (f.pitchClass = .gap) || f.suspect
    pitchEstimated := g.pitchEstimated || f.pitchEstimated
    sampleOverflow := g.sampleOverflow || f.sampleOverflow
    poor := g.poor || decide (f.result.cls ≠ .good) }

/-! Drawings (R71, R81 to R83). -/

/-- Whether an open drawing has sheets remaining (R71). -/
def sheetsRemaining (d : Drawing) : Bool :=
  match d.entry with
  | some e => decide (d.sheetsSeen < e.sheetCount)
  | none => decide (d.sheetsSeen < 32)

/-- The binding of a slot of a drawing with a sheet number: BOUND with its entry copy, or UNBOUND. -/
def drawingBinding (d : Drawing) (sheet : Nat) : Binding :=
  match d.entry with
  | some e => .bound e d.serial sheet
  | none => .unbound d.serial sheet

/-- The LIST_LOW test on the remaining length, made at each removal by binding (R63). -/
def listLowTest (s : State) : State :=
  if s.list.entries.length ≤ s.command.settings.listLow then occur .listLow s else s

/-- The serial that the next drawing takes (R71). -/
def nextSerial (m : MatchingEngine) : Nat := (m.serial + 1) % 256

/-- An open bound drawing closes: SHORT and MISSING_SHEET when sheets are missing (R86). -/
def closeBound (d : Drawing) (e : Entry) (s : State) : State :=
  if d.sheetsSeen < e.sheetCount then
    occur .missingSheet { s with
      matching.hold := modifyNewest (isCardOf d.serial) (withFlags (fun f => { f with short := true })) s.matching.hold }
  else s

/-- An open unbound drawing closes: its held CARD slots become UNLISTED exceptions (R87). -/
def closeUnbound (d : Drawing) (s : State) : State :=
  occur .unlistedFrame { s with
    matching.hold := s.matching.hold.map (fun x => if isCardOf d.serial x then makeException .unlisted x else x) }

/-- The open drawing, if any, closes and becomes the recent drawing (R72, R86, R87); release is not run yet (DEDUCED,
notes/assumptions/9.md). -/
def closeDrawing (s : State) : State :=
  match s.matching.drawing with
  | none => s
  | some d =>
    let t := match d.entry with
      | some e => closeBound d e s
      | none => closeUnbound d s
    { t with matching.drawing := none, matching.recent := some d }

/-- The open drawing, if any, closes, and release runs (R85). -/
def closeAndRelease (s : State) : State :=
  match s.matching.drawing with
  | none => s
  | some _ => release (closeDrawing s)

/-- A drawing opens for a document start: bound to the head entry of the list, or unbound when the list is empty (R59,
R71, R81, R82). -/
def openDrawing (s : State) : State :=
  let serial := nextSerial s.matching
  match s.list.entries with
  | e :: rest =>
    listLowTest { s with
      list.entries := rest
      matching.serial := serial
      matching.drawing := some { serial := serial, entry := some e, sheetsSeen := 1 }
      matching.recent := none }
  | [] =>
    occur .listEmpty { s with
      matching.serial := serial
      matching.drawing := some { serial := serial, entry := none, sheetsSeen := 1 }
      matching.recent := none }

/-- What a frame's CARD slot takes from the decisions: its binding, the flags they give it, and the state they leave. -/
structure CardTaken where
  binding : Binding
  flags   : SlotFlags
  state   : State

/-- A frame taken as a document start (R81, R82). -/
def takeDoc (flags : SlotFlags) (s : State) : CardTaken :=
  let t := openDrawing (closeDrawing s)
  match t.matching.drawing with
  | some d => { binding := drawingBinding d 1, flags := flags, state := t }
  | none => { binding := .except .unlisted, flags := flags, state := t }

/-- A frame taken as a further sheet of an open drawing (R83). -/
def takeSheetOf (d : Drawing) (flags : SlotFlags) (s : State) : CardTaken :=
  if sheetsRemaining d then
    let grown := { d with sheetsSeen := d.sheetsSeen + 1 }
    { binding := drawingBinding grown grown.sheetsSeen, flags := flags,
      state := { s with matching.drawing := some grown } }
  else { binding := .except .extra, flags := flags, state := s }

/-- The drawing whose slots a RETAKE looks at: the open one, or the recent one when none is open (R78). -/
def retakeDrawing (m : MatchingEngine) : Option Drawing :=
  match m.drawing with
  | some d => some d
  | none => m.recent

/-- The target of a RETAKE, if it is still held (R78). -/
def retakeTarget (m : MatchingEngine) : Option Slot :=
  match retakeDrawing m with
  | none => none
  | some d => newestCard d.serial m.hold

/-- A slot superseded in place (R78). -/
def supersede (slot : Slot) : Slot := { slot with body := .waste .superseded }

/-- The newest CARD slot of the drawing with this serial is superseded, and the superseded counter advances (R78). -/
def supersedeNewest (serial : Nat) (s : State) : State :=
  advance .superseded { s with matching.hold := modifyNewest (isCardOf serial) supersede s.matching.hold }

/-- A RETAKE that finds no target (R79). -/
def takeLateRetake (s : State) : CardTaken :=
  match s.matching.drawing, s.matching.recent with
  | some d, _ =>
    { binding := drawingBinding d d.sheetsSeen, flags := { lateRetake := true }, state := occur .lateRetake s }
  | none, some r =>
    match r.entry with
    | some _ =>
      { binding := drawingBinding r r.sheetsSeen, flags := { lateRetake := true }, state := occur .lateRetake s }
    | none =>
      { binding := .except .unlisted, flags := { lateRetake := true },
        state := occur .unlistedFrame (occur .lateRetake s) }
  | none, none => { binding := .except .unlisted, flags := {}, state := occur .unlistedFrame s }

/-- A frame with mark class RETAKE (R78, R79). -/
def takeRetake (s : State) : CardTaken :=
  match retakeTarget s.matching with
  | none => takeLateRetake s
  | some target =>
    match target.body, slotSerial target with
    | .card b f, some serial =>
      { binding := b, flags := { retake := true, short := f.short }, state := supersedeNewest serial s }
    | _, _ => takeLateRetake s

/-- The card decisions of R74, steps 3 to 6. -/
def takeCard (mark : MarkClass) (s : State) : CardTaken :=
  match mark with
  | .retake => takeRetake s
  | .unknown =>
    match s.matching.drawing with
    | some d => if sheetsRemaining d then takeSheetOf d { markInferred := true } s else takeDoc { markInferred := true } s
    | none => takeDoc { markInferred := true } s
  | .sheet =>
    match s.matching.drawing with
    | some d => takeSheetOf d {} s
    | none => takeDoc { markInferred := true } s
  | .doc => takeDoc {} s
  | .target => takeDoc {} s

/-- The waste reason of a frame: the first that applies in the order LEADER, SLIVER, TARGET, BLANK (R77). -/
def wasteReasonOf (f : ClosedFrame) : Option WasteReason :=
  if f.leader then some .leader
  else if f.pitchClass = .sliver then some .sliver
  else if f.mark = .target then some .target
  else if f.result.cls = .blank then some .blank
  else none

/-! Slot room (R75, R76, R93). -/

/-- Whether a frame is refused as lost (R76). -/
def isRefused (f : ClosedFrame) (s : State) : Bool :=
  (match s.matching.hold.getLast? with
    | some tail => decide (f.number ≤ tail.number)
    | none => false) ||
  (decide (holdSlots ≤ s.matching.hold.length) && decide (outputRoom ≤ s.output.queue.length))

/-- A slot as it is rendered at early release: EARLY added, and an UNBOUND slot made an UNLISTED exception (R93). A WASTE slot
carries no flags (DESIGN CHOICE, unreachable, notes/assumptions/23.md). -/
def earlySlot (slot : Slot) : Slot :=
  match slot.body with
  | .card (.unbound _ _) f => { slot with body := .card (.except .unlisted) { f with early := true } }
  | .card b f => { slot with body := .card b { f with early := true } }
  | .waste _ => slot

/-- The event of an early release of an UNBOUND slot (R93). -/
def earlyUnlisted (slot : Slot) (s : State) : State :=
  match slot.body with
  | .card (.unbound _ _) _ => occur .unlistedFrame s
  | _ => s

/-- The early release of the head slot, and release after it (R75, R93). -/
def earlyRelease (s : State) : State :=
  match s.matching.hold with
  | [] => s
  | slot :: rest =>
    let t := earlyUnlisted slot (occur .earlyRelease s)
    release (emitSlot (earlySlot slot) { t with matching.hold := rest })

/-- Room for a frame that is not refused: early release when the hold queue is full (R75). -/
def makeRoom (s : State) : State := if holdSlots ≤ s.matching.hold.length then earlyRelease s else s

/-- The slot of a frame with a body. -/
def slotOf (f : ClosedFrame) (body : SlotBody) : Slot :=
  { reel := f.reel, number := f.number, counter := f.counter, pitch := f.pitch, body := body }

/-- The new slot joins the tail of the hold queue, frames accepted advances, and release runs (R74). -/
def joinSlot (slot : Slot) (s : State) : State :=
  release (advance .framesAccepted { s with matching.hold := s.matching.hold ++ [slot] })

/-- The matching engine takes a frame that is not refused (R74, steps 2 to 7). -/
def acceptFrame (f : ClosedFrame) (s : State) : State :=
  match wasteReasonOf f with
  | some reason => joinSlot (slotOf f (.waste reason)) s
  | none =>
    let c := takeCard f.mark s
    joinSlot (slotOf f (.card c.binding (addFrameFlags f c.flags))) c.state

/-- The matching engine takes a frame (R74): the new state, or none when it refuses the frame as lost. -/
def takeFrame (f : ClosedFrame) (s : State) : Option State :=
  if isRefused f s then none else some (acceptFrame f (makeRoom s))

/-! Late binding (R60, R88). -/

/-- A CARD slot of the open drawing bound late: BOUND with the entry, or an EXTRA exception beyond its sheet count (R88,
steps 2 and 3). -/
def bindSlot (e : Entry) (serial : Nat) (slot : Slot) : Slot :=
  match slot.body with
  | .card (.unbound k sheet) f =>
    if k = serial then
      { slot with body := .card (if e.sheetCount < sheet then .except .extra else .bound e serial sheet) f }
    else slot
  | .card (.bound _ k sheet) f =>
    if k = serial then
      { slot with body := .card (if e.sheetCount < sheet then .except .extra else .bound e serial sheet) f }
    else slot
  | _ => slot

/-- The open unbound drawing binds an entry, and release runs (R88). -/
def bindLate (d : Drawing) (e : Entry) (s : State) : State :=
  release { s with
    matching.drawing := some { d with entry := some e, sheetsSeen := min d.sheetsSeen e.sheetCount }
    matching.hold := s.matching.hold.map (bindSlot e d.serial) }

/-- After an accepted append: the head entry binds to an open unbound drawing (R57 step 3, R60). The answer says whether
it bound. -/
def bindAppended (s : State) : Bool × State :=
  match s.matching.drawing, s.list.entries with
  | some d, e :: rest =>
    match d.entry with
    | none => (true, bindLate d e (listLowTest { s with list.entries := rest }))
    | some _ => (false, s)
  | _, _ => (false, s)

/-! The flush timer (R94). -/

/-- Whether the flush timer has anything to wait for: a frame in assembly or an open drawing. -/
def timerNeeded (s : State) : Bool := s.tracker.assembly.isSome || s.matching.drawing.isSome

/-- The restart at a MARK or SCAN (R94). -/
def restartTimer (s : State) : State :=
  if timerNeeded s && decide (s.command.settings.flushTime ≠ 0) then
    { s with matching.flushTimer := some s.command.settings.flushTime }
  else { s with matching.flushTimer := none }

/-- The timer stops after any event that leaves no frame in assembly and no drawing open (R94). -/
def settleTimer (s : State) : State :=
  if timerNeeded s then s else { s with matching.flushTimer := none }

end Sys2Proof.Machine
end

