-- ==== Sys2Proof/Machine/Tracker.lean ====
section
/-! DEFINITION. The frame tracker: frame assembly, closing, acquisition, hand-over, losses and the film records (chapter 1). -/

namespace Sys2Proof.Machine

/-- The reel parameters in force. With none (no run closes a frame or takes a sample then; DESIGN CHOICE,
notes/assumptions/18.md) they read as the first value of each range. -/
def reelInForce (t : FrameTracker) : ReelParams :=
  match t.reel with
  | some r => r
  | none => { number := 0, polarity := .negative, format := .w16, linePitch := 1, counterAtLoad := 0 }

/-- The last mark counter (always present outside IDLE; DESIGN CHOICE, notes/assumptions/18.md). -/
def markInForce (t : FrameTracker) : Nat := t.lastMark.getD 0

/-! Hand-over and losses (R25 to R27). -/

/-- The occasion of a hand-over, which decides what a loss does (R26). -/
inductive Occasion where
  /-- At a MARK or a flush expiry. -/
  | live
  /-- Steps 1 and 2 of R6, and R7. -/
  | reelChange
  /-- The acquisition buffer on a reversal (R10). -/
  | reversal
  /-- The acquisition buffer at an exhausted frame counter (R16). -/
  | exhausted
  deriving DecidableEq, Repr

/-- The latch and the counter of a lost frame (R26). -/
def noteLoss (s : State) : State := advance .lostFrames (occur .frameLost s)

/-- Steps 1 to 6 of R26 for a lost frame. -/
def loseFrame (f : ClosedFrame) (s : State) : State :=
  noteLoss (emptyAcc { s with
    tracker.nextNew := f.counter - s.command.settings.pitchMin / 2
    tracker.frameCounter := f.number - 1
    tracker.assembly := none
    tracker.buffer := []
    tracker.closeCount := 0 })

/-- A frame refused as lost, by the occasion of its hand-over (R26). -/
def takeLoss (o : Occasion) (f : ClosedFrame) (s : State) : State :=
  match o with
  | .live => requestHalt .lost true { loseFrame f s with tracker.state := .lost }
  | .reelChange => noteLoss { s with tracker.frameCounter := f.number - 1, tracker.buffer := [] }
  | .reversal => loseFrame f s
  | .exhausted => loseFrame f s

/-- Frames handed to the matching engine one at a time, oldest first; each accepted frame writes next_new (R25), and a
lost one ends the hand-over (R26; DEDUCED for the hand-over that ends acquisition, notes/assumptions/11.md). -/
def handOver (o : Occasion) : List ClosedFrame → State → State
  | [], s => s
  | f :: fs, s =>
    match takeFrame f s with
    | none => takeLoss o f s
    | some t => handOver o fs { t with tracker.nextNew := f.counter + t.command.settings.pitchMin / 2 }

/-- A frame flagged LEADER (R22, R24). -/
def asLeader (f : ClosedFrame) : ClosedFrame := { f with leader := true }

/-- The acquisition buffer goes to the matching engine, each frame flagged LEADER (R24). -/
def flushBuffer (o : Occasion) (s : State) : State :=
  handOver o (s.tracker.buffer.map asLeader) { s with tracker.buffer := [] }

/-! Acquisition (R21 to R23). -/

/-- Whether a closed frame is normal (R21). -/
def isNormal (f : ClosedFrame) : Bool := decide (f.pitchClass = .normal) && !f.suspect

/-- A frame that closed in ACQUIRE (R21). -/
def acquire (o : Occasion) (f : ClosedFrame) (s : State) : State :=
  let count := s.tracker.closeCount + 1
  let held := s.tracker.buffer
  let c := { s with tracker.closeCount := count }
  if isNormal f && decide (2 ≤ held.length) then
    handOver o (held ++ [f]) { c with tracker.buffer := [], tracker.state := .tracking }
  else if 64 ≤ count then
    let t := occur .acquireFail c
    handOver o (held ++ [f])
      { t with tracker.buffer := [], tracker.state := .tracking, tracker.pitchChecking := false }
  else if isNormal f then { c with tracker.buffer := held ++ [f] }
  else handOver o ((held ++ [f]).map asLeader) { c with tracker.buffer := [] }

/-! Closing a frame (R16 to R20). -/

/-- Where a closing frame's pitch comes from (R9, R19). -/
inductive PitchSource where
  | counters (pitch : Nat)
  | estimated
  deriving DecidableEq, Repr

/-- The pitch of a closing frame (R9, R19). -/
def pitchOf (p : PitchSource) (a : Assembly) (linePitch : Nat) : Nat :=
  match p with
  | .counters pitch => pitch
  | .estimated => a.lines * linePitch

/-- The pitch class (R17). -/
def pitchClassOf (checking : Bool) (v : Settings) (pitch : Nat) : PitchClass :=
  if !checking then .unchecked
  else if pitch < v.pitchMin then .sliver
  else if pitch ≤ v.pitchMax then .normal
  else if pitch ≤ 2 * v.pitchMax then .long
  else .gap

/-- The event that a pitch class latches (R17). -/
def pitchEvent (c : PitchClass) (s : State) : State :=
  match c with
  | .sliver => occur .sliver s
  | .gap => occur .missedMark s
  | _ => s

/-- The difference of two lengths. -/
def distance (a b : Nat) : Nat := (a - b) + (b - a)

/-- Whether the cross-check gives SUSPECT (R18). -/
def isMismatch (checking : Bool) (v : Settings) (p : PitchSource) (a : Assembly) (linePitch : Nat) : Bool :=
  match p with
  | .counters pitch => checking && decide (v.trackTol < distance pitch (a.lines * linePitch))
  | .estimated => false

/-- The closed frame that the frame in assembly becomes (R16 to R20). -/
def closedFrame (p : PitchSource) (a : Assembly) (s : State) : ClosedFrame :=
  let v := s.command.settings
  let r := reelInForce s.tracker
  let pitch := pitchOf p a r.linePitch
  let result := densityResult v r.polarity s.density.acc
  { reel := r.number
    number := s.tracker.frameCounter + 1
    counter := a.counter
    pitch := pitch
    pitchClass := pitchClassOf s.tracker.pitchChecking v pitch
    mark := a.mark
    leader := false
    pitchEstimated := decide (p = .estimated)
    suspect := isMismatch s.tracker.pitchChecking v p a r.linePitch
    result := result
    sampleOverflow := a.lineOverflow || result.overflow }

/-- The state after a frame has been numbered and closed: its number, its events, the last result, empty accumulators
(R16 to R18, R44, R47). -/
def afterClose (f : ClosedFrame) (s : State) : State :=
  let numbered := { s with tracker.frameCounter := f.number, tracker.assembly := none }
  let classed := pitchEvent f.pitchClass numbered
  let checked := if f.suspect then occur .trackMismatch classed else classed
  { checked with density.acc := emptyAccumulators, density.last := some f.result }

/-- A closing frame that finds the frame counter exhausted (R16). -/
def exhaust (o : Occasion) (s : State) : State :=
  let t := occur .reelFull (emptyAcc { s with tracker.assembly := none })
  flushBuffer (match o with | .reelChange => .reelChange | _ => .exhausted) { t with tracker.state := .full }

/-- A closed frame is handed over, or goes through the acquisition rules in ACQUIRE (R9, R19, R21). -/
def routeFrame (o : Occasion) (f : ClosedFrame) (s : State) : State :=
  if s.tracker.state = .acquire then acquire o f s else handOver o [f] s

/-- The frame in assembly, if any, closes and goes on (R9, R16, R19). -/
def closeAssembly (o : Occasion) (p : PitchSource) (s : State) : State :=
  match s.tracker.assembly with
  | none => s
  | some a =>
    if lastFrameNumber ≤ s.tracker.frameCounter then exhaust o s
    else
      let f := closedFrame p a s
      routeFrame o f (afterClose f s)

/-! MARK (R8 to R13). -/

/-- A new frame starts assembly (R9). -/
def startFrame (mark : MarkClass) (c : Nat) (s : State) : State :=
  emptyAcc { s with tracker.assembly := some { mark := mark, counter := c, lines := 0, lineOverflow := false } }

/-- A mark beyond the last one in ACQUIRE or TRACKING: the frame in assembly closes and the next one starts, unless the
close ended in LOST or FULL (R9, R16, R26). -/
def forwardMark (mark : MarkClass) (c : Nat) (s : State) : State :=
  let t := closeAssembly .live (.counters (c - markInForce s.tracker)) s
  if t.tracker.state = .acquire ∨ t.tracker.state = .tracking then startFrame mark c t else t

/-- A reversal in ACQUIRE or TRACKING (R10). -/
def reverse (s : State) : State :=
  let abandoned := emptyAcc { s with tracker.assembly := none }
  let flushed := if s.tracker.state = .acquire then flushBuffer .reversal abandoned else abandoned
  { occur .reversal flushed with tracker.state := .rewound }

/-- A non-duplicate mark in REWOUND (R11). -/
def rewoundMark (mark : MarkClass) (c : Nat) (s : State) : State :=
  if c < markInForce s.tracker then occur .reversal s
  else if c < s.tracker.nextNew then advance .replaysSkipped s
  else startFrame mark c { s with tracker.state := .tracking }

/-- A non-duplicate mark in LOST (R12). -/
def lostMark (c : Nat) (s : State) : State :=
  if c < markInForce s.tracker then
    requestHalt .lost false { occur .reversal s with tracker.state := .rewound }
  else s

/-- A MARK that is compared with the last mark counter and is no duplicate, by the tracker state (R8). -/
def newMark (mark : MarkClass) (c : Nat) (s : State) : State :=
  match s.tracker.state with
  | .acquire => if c < markInForce s.tracker then reverse s else forwardMark mark c s
  | .tracking => if c < markInForce s.tracker then reverse s else forwardMark mark c s
  | .rewound => rewoundMark mark c s
  | .lost => lostMark c s
  | .idle => s
  | .full => s

/-- Film traffic ignored in IDLE (R4). -/
def ignoreInIdle (s : State) : State := occur .noReel (advance .ignoredInIdle s)

/-- The tracker takes a MARK (R4, R8, R13). -/
def trackMark (mark : MarkClass) (c : Nat) (s : State) : State :=
  match s.tracker.state with
  | .idle => ignoreInIdle s
  | .full => s
  | _ =>
    if s.tracker.lastMark = some c then advance .duplicates s
    else { newMark mark c s with tracker.lastMark := some c }

/-- A MARK arrives: the tracker takes it, the flush timer restarts (R94), and LIST is reported (R73). -/
def takeMark (mark : MarkClass) (c : Nat) (s : State) : State :=
  reportList (restartTimer (trackMark mark c s))

/-! SCAN (R14, R15). -/

/-- A scan line taken for the frame in assembly (R14). -/
def takeLine (a : Assembly) (xs : List Sample) (s : State) : State :=
  if a.lines < lineCap then
    takeSamples xs { s with tracker.assembly := some { a with lines := a.lines + 1 } }
  else occur .sampleOverflow { s with tracker.assembly := some { a with lineOverflow := true } }

/-- The tracker takes a SCAN (R4, R13 to R15, R202). -/
def trackScan (payload : List Byte) (s : State) : State :=
  match s.tracker.state with
  | .idle => ignoreInIdle s
  | .full => s
  | _ =>
    match s.tracker.assembly with
    | none => s
    | some a =>
      match readScan (reelInForce s.tracker).format payload with
      | none => advance .badScanLines s
      | some xs => takeLine a xs s

/-- A SCAN arrives: the tracker takes it and the flush timer restarts (R94). -/
def takeScan (payload : List Byte) (s : State) : State := restartTimer (trackScan payload s)

/-! REEL and REEL_END (R5 to R7). -/

/-- Steps 1 to 3 of R6, shared with R7: the frame in assembly closes, the buffer is flushed, the drawing closes. -/
def endReel (s : State) : State :=
  closeAndRelease (flushBuffer .reelChange (closeAssembly .reelChange .estimated s))

/-- Steps 4 to 7 of R6. -/
def loadReel (r : ReelParams) (s : State) : State :=
  { s with
    tracker.reel := some r
    tracker.frameCounter := 0
    tracker.closeCount := 0
    tracker.pitchChecking := true
    tracker.lastMark := some r.counterAtLoad
    tracker.nextNew := r.counterAtLoad }

/-- The tracker leaves the reel for a state; a LOST tracker asks for the halt reason LOST to be cleared (R6 step 8, R7,
R27). -/
def leaveReel (next : TrackerState) (wasLost : Bool) (s : State) : State :=
  let t := { s with tracker.state := next }
  if wasLost then requestHalt .lost false t else t

/-- A REEL arrives (R6). -/
def takeReel (r : ReelParams) (s : State) : State :=
  let wasLost := decide (s.tracker.state = .lost)
  reportList (settleTimer (leaveReel .acquire wasLost (loadReel r (endReel s))))

/-- A REEL_END arrives (R4, R7). -/
def takeReelEnd (s : State) : State :=
  if s.tracker.state = .idle then ignoreInIdle s
  else
    let wasLost := decide (s.tracker.state = .lost)
    reportList (settleTimer (leaveReel .idle wasLost (endReel s)))

/-! The flush timer's expiry (R95). -/

/-- Step 1 of R95: in ACQUIRE or TRACKING the frame in assembly closes with an estimated pitch (R19). -/
def flushAssembly (s : State) : State :=
  if s.tracker.state = .acquire ∨ s.tracker.state = .tracking then closeAssembly .live .estimated s else s

/-- The flush timer expires: only a running timer does (R94, R95). -/
def expireFlush (s : State) : State :=
  match s.matching.flushTimer with
  | none => s
  | some _ =>
    let t := release (closeAndRelease (flushAssembly s))
    reportList { t with matching.flushTimer := none }

end Sys2Proof.Machine
end

