-- ==== Sys2Proof/Machine/Status.lean ====
section
/-! DEFINITION. The data of the READ_STATUS reply (R185, R209). -/

namespace Sys2Proof.Machine

/-- Line port, offsets 0 to 14 (R209). The bad run count is the one that the READ_STATUS record itself has left, 0 (DEDUCED,
notes/assumptions/28.md). -/
def statusLine (s : State) : List Byte :=
  be8 (modeCode s.line.mode) ++ be8 (pathCode s.line.path) ++ be8 (alignmentCode s.line.alignment) ++
  be8 s.line.goodRun ++ be8 s.line.badRun ++ be8 (s.line.position.getD 255) ++
  be8 s.line.strap.toNat ++ be8 s.signals.strapPins.toNat ++
  be16 (forwardUsed s.line) ++ be16 s.line.forward.length ++
  be8 s.line.control.length ++
  be8 (match s.line.control.find? (fun c => c.halt) with
    | none => 0
    | some c => if c.record.kind = kindHalt then 1 else 2) ++
  be8 s.line.burst

/-- The reel parameters, offsets 16 to 24; every value 0 when none (R209). -/
def statusReel : Option ReelParams → List Byte
  | none => flag8 false ++ be16 0 ++ be8 0 ++ be8 0 ++ be8 0 ++ be24 0
  | some r => flag8 true ++ be16 r.number ++ be8 (polarityCode r.polarity) ++ be8 (formatCode r.format) ++
      be8 r.linePitch ++ be24 r.counterAtLoad

/-- The frame in assembly, offsets 36 to 43; every value 0 when none (R209). -/
def statusAssembly : Option Assembly → List Byte
  | none => flag8 false ++ be8 0 ++ be24 0 ++ be16 0 ++ be8 0
  | some a => flag8 true ++ be8 (markCode a.mark) ++ be24 a.counter ++ be16 a.lines ++ flag8 a.lineOverflow

/-- Frame tracker, offsets 15 to 45 (R209). -/
def statusTracker (t : FrameTracker) : List Byte :=
  be8 (trackerStateCode t.state) ++ statusReel t.reel ++ flag8 t.pitchChecking ++
  flag8 t.lastMark.isSome ++ be24 (t.lastMark.getD 0) ++ be32 t.nextNew ++ be16 t.frameCounter ++
  statusAssembly t.assembly ++ be8 t.buffer.length ++ be8 t.closeCount

/-- The last result, offsets 56 to 67; none is class UNMEASURED with every value 0 (R29, R209). -/
def statusResult : Option DensityResult → List Byte
  | none => be16 0 ++ be16 0 ++ be16 0 ++ be16 0 ++ be16 0 ++ be8 (densityClassCode .unmeasured) ++ be8 0
  | some r => be16 r.n ++ be16 r.dmin ++ be16 r.dmean ++ be16 r.dmax ++ be16 r.contrast ++
      be8 (densityClassCode r.cls) ++ flag8 r.overflow

/-- Density unit, offsets 46 to 67 (R209). -/
def statusDensity (d : DensityUnit) : List Byte :=
  be16 d.acc.n ++ be24 d.acc.sum ++ be16 (d.acc.dmin.getD 0) ++ be16 (d.acc.dmax.getD 0) ++
  flag8 d.acc.overflow ++ statusResult d.last

/-- The list number of the head entry, or none (R49). -/
def headNumber (l : DrawingList) : Option Nat := l.entries.head?.map (fun e => e.listNumber)

/-- Drawing list, offsets 68 to 75 (R209). -/
def statusList (l : DrawingList) : List Byte :=
  be16 l.entries.length ++ presence16 (headNumber l) ++ presence16 l.expected

/-- The open drawing, offsets 82 to 87 (R209). -/
def statusDrawing (d : Option Drawing) : List Byte :=
  be8 (drawingStateCode d) ++ be8 ((d.map (fun x => x.serial)).getD 0) ++
  be8 ((d.map (fun x => x.sheetsSeen)).getD 0) ++
  presence16 (d.bind (fun x => x.entry.map (fun e => e.listNumber)))

/-- Matching engine, offsets 76 to 92 (R209). -/
def statusMatching (m : MatchingEngine) : List Byte :=
  be8 m.hold.length ++ be16 ((m.hold.head?.map (fun x => x.number)).getD 0) ++
  be16 ((m.hold.getLast?.map (fun x => x.number)).getD 0) ++
  be8 (m.hold.filter (isReleasable m)).length ++ statusDrawing m.drawing ++
  flag8 m.recent.isSome ++ be8 ((m.recent.map (fun x => x.serial)).getD 0) ++ be8 m.serial ++
  flag8 m.flushTimer.isSome ++ be8 (m.flushTimer.getD 0)

/-- Output controller, offsets 93 to 108 (R209). -/
def statusOutput (o : OutputController) : List Byte :=
  be8 o.queue.length ++ presence16 (o.queue.head?.map (fun i => i.seq)) ++ be8 o.inFlight.length ++
  presence16 (o.inFlight.head?.map (fun e => e.instruction.seq)) ++
  be8 ((o.inFlight.head?.map (fun e => e.deadline)).getD 0) ++ presence16 (o.jam.map (fun i => i.seq)) ++
  flag8 o.held ++ be8 (haltBits o.halt) ++ be16 o.nextSeq

/-- Command unit, offsets 109 to 145 (R209). -/
def statusCommand (c : CommandUnit) : List Byte :=
  (settingValues c.settings).flatMap be16 ++ flag8 c.arming

/-- The 146 data bytes of READ_STATUS (R209). -/
def statusData (s : State) : List Byte :=
  statusLine s ++ statusTracker s.tracker ++ statusDensity s.density ++ statusList s.list ++
  statusMatching s.matching ++ statusOutput s.output ++ statusCommand s.command

end Sys2Proof.Machine
end

