-- ==== Sys2Proof/Machine/Commands.lean ====
section
/-! DEFINITION. The management commands: their checks, their effects and their replies (chapter 8; R37, R38, R53 to R65,
R108, R113, R134 to R136, R156, R157, R190 to R197, R206 to R209). Each takes the source of its COMMAND and its operand,
in a state in which the place of its REPLY is reserved, and queues its one REPLY. -/

namespace Sys2Proof.Machine

/-! Ring membership, mode and reset. -/

/-- JOIN that is acted on (R156): a BYPASS station comes into PASS. -/
def cmdJoin (src : Byte) (s : State) : State :=
  let t := if s.line.mode = .bypass then { s with line.mode := .pass } else s
  reply src codeJoin .ok (be8 s.line.strap.toNat) t

/-- LEAVE (R157): the REPLY is queued first; then the blocks are reset, the position becomes none and the station is in
BYPASS on the STORED path. -/
def cmdLeave (src : Byte) (operand : List Byte) (s : State) : State :=
  if operand.length ≠ 0 then reply src codeLeave .badLength [] s
  else
    let t := resetBlocks (reply src codeLeave .ok [] s)
    { t with line.position := none, line.mode := .bypass, line.path := .stored }

/-- Whether the station holds work that SET_MODE PASS would strand (R179). -/
def holdsWork (s : State) : Bool :=
  !s.matching.hold.isEmpty || !s.output.queue.isEmpty || !s.output.inFlight.isEmpty || s.output.jam.isSome

/-- The data of the BUSY reply (R179, R208). -/
def busyData (s : State) : List Byte :=
  be8 s.matching.hold.length ++ be8 s.output.queue.length ++ be8 s.output.inFlight.length ++ flag8 s.output.jam.isSome

/-- SET_MODE PASS (R177, R179). -/
def setModePass (src : Byte) (s : State) : State :=
  if s.line.mode = .pass then reply src codeSetMode .ok (be8 (modeCode .pass)) s
  else if holdsWork s then reply src codeSetMode .busy (busyData s) s
  else reply src codeSetMode .ok (be8 (modeCode .pass)) { s with line.mode := .pass, matching.flushTimer := none }

/-- SET_MODE CONVERT (R177, R178). -/
def setModeConvert (src : Byte) (s : State) : State :=
  reply src codeSetMode .ok (be8 (modeCode .convert)) { s with line.mode := .convert }

/-- SET_MODE (R177). -/
def cmdSetMode (src : Byte) (operand : List Byte) (s : State) : State :=
  match operand with
  | [m] =>
    if m = 1#8 then setModePass src s
    else if m = 2#8 then setModeConvert src s
    else reply src codeSetMode .badValue [] s
  | _ => reply src codeSetMode .badLength [] s

/-- The data of the STATION_RESET reply: what the reset discards (R181, R208). -/
def resetData (s : State) : List Byte :=
  be8 (modeCode s.line.mode) ++ be8 s.matching.hold.length ++
  be8 (s.output.queue.length + s.output.inFlight.length + (if s.output.jam.isSome then 1 else 0)) ++
  flag8 s.tracker.assembly.isSome

/-- STATION_RESET (R181, R182). -/
def cmdStationReset (src : Byte) (operand : List Byte) (s : State) : State :=
  if operand.length ≠ 0 then reply src codeStationReset .badLength [] s
  else
    let t := resetBlocks (reply src codeStationReset .ok (resetData s) s)
    { t with line.mode := .pass }

/-! Loads (R176). -/

/-- LOAD_DENSITY (R37, R38). -/
def cmdLoadDensity (src : Byte) (operand : List Byte) (s : State) : State :=
  if operand.length ≠ 130 then reply src codeLoadDensity .badLength [] s
  else if inConvert s then reply src codeLoadDensity .mode [] s
  else
    let loaded := words16 operand
    let clamped := clampDensity loaded
    let table := repairTable clamped
    let repaired := changedCount clamped table
    let t := { s with density.table := table }
    reply src codeLoadDensity .ok (be8 (changedCount loaded clamped) ++ be8 repaired)
      (if repaired = 0 then t else occur .tableRepaired t)

/-- LOAD_SETTINGS (R174). -/
def cmdLoadSettings (src : Byte) (operand : List Byte) (s : State) : State :=
  if operand.length ≠ 36 then reply src codeLoadSettings .badLength [] s
  else if inConvert s then reply src codeLoadSettings .mode [] s
  else
    let sent := words16 operand
    let clamped := clampSettings sent
    match settingsOf clamped with
    | none => reply src codeLoadSettings .badLength [] s
    | some v =>
      if inconsistency v ≠ 0 then reply src codeLoadSettings .badValue (be8 (inconsistency v)) s
      else reply src codeLoadSettings .ok (be8 (changedCount sent clamped)) { s with command.settings := v }

/-- The 64 patterns of a LOAD_PUNCH operand: bits 11..0 of each value (R113, R204). -/
def readPatterns (operand : List Byte) : List Pattern := (words16 operand).map (fun w => BitVec.ofNat 12 w)

/-- Codes other than space whose pattern is empty (R113). -/
def emptyPatterns (punch : List Pattern) : Nat := ((punch.drop 1).filter (fun p => p == 0#12)).length

/-- LOAD_PUNCH (R113). -/
def cmdLoadPunch (src : Byte) (operand : List Byte) (s : State) : State :=
  if operand.length ≠ 128 then reply src codeLoadPunch .badLength [] s
  else if inConvert s then reply src codeLoadPunch .mode [] s
  else
    let punch := readPatterns operand
    reply src codeLoadPunch .ok (be8 (emptyPatterns punch) ++ flag8 (punch.getD 0 0#12 == 0#12))
      { s with composer.punch := punch }

/-- LOAD_FIELDS after its length check (R108). -/
def loadPlacements (src : Byte) (raw : List RawPlacement) (s : State) : State :=
  if inConvert s then reply src codeLoadFields .mode [] s
  else
    match fitPlacements 1 raw with
    | .error pos => reply src codeLoadFields .badValue (be8 pos) s
    | .ok map =>
      reply src codeLoadFields .ok (be8 map.length ++ be8 (raw.filter isReduced).length)
        { s with composer.fieldMap := map }

/-- LOAD_FIELDS (R108). -/
def cmdLoadFields (src : Byte) (operand : List Byte) (s : State) : State :=
  match operand with
  | [] => reply src codeLoadFields .badLength [] s
  | count :: body =>
    if 8 < count.toNat ∨ body.length ≠ 4 * count.toNat then reply src codeLoadFields .badLength [] s
    else loadPlacements src (readPlacements body) s

/-! The drawing list. -/

/-- An accepted LIST_APPEND (R57, R58). -/
def acceptAppend (src : Byte) (first : Nat) (es : List RawEntry) (s : State) : State :=
  let joined := { s with
    list.entries := s.list.entries ++ convertEntries first es
    list.expected := some ((first + es.length) % 65536) }
  let (bound, t) := bindAppended joined
  let u := reportList t
  reply src codeListAppend .ok
    (be8 es.length ++ be16 (es.map substitutions).sum ++ flag8 bound ++ be16 u.list.entries.length ++
      be16 (u.list.expected.getD 0)) u

/-- LIST_APPEND after its length check: the checks of R54 in their order. -/
def checkAppend (src : Byte) (first : Nat) (es : List RawEntry) (s : State) : State :=
  match firstInvalid 1 es with
  | some pos => reply src codeListAppend .badValue (be8 pos) s
  | none =>
    if s.list.expected.isSome ∧ s.list.expected ≠ some first then
      reply src codeListAppend .sequence (be16 (s.list.expected.getD 0)) s
    else if listEntries < s.list.entries.length + es.length then
      reply src codeListAppend .listFull (be16 s.list.entries.length) s
    else acceptAppend src first es s

/-- LIST_APPEND (R53 to R58). -/
def cmdListAppend (src : Byte) (operand : List Byte) (s : State) : State :=
  match readAppend operand with
  | none => reply src codeListAppend .badLength [] s
  | some (first, es) => checkAppend src first es s

/-- LIST_CLEAR (R64). -/
def cmdListClear (src : Byte) (operand : List Byte) (s : State) : State :=
  if operand.length ≠ 0 then reply src codeListClear .badLength [] s
  else
    reply src codeListClear .ok (be16 s.list.entries.length) { s with list.entries := [], list.expected := none }

/-- LIST_QUERY (R65). -/
def cmdListQuery (src : Byte) (operand : List Byte) (s : State) : State :=
  if operand.length ≠ 0 then reply src codeListQuery .badLength [] s
  else
    reply src codeListQuery .ok
      (be16 s.list.entries.length ++ presence16 (headNumber s.list) ++ presence16 s.list.expected) s

/-! Matching and output. -/

/-- FLUSH (R184). -/
def cmdFlush (src : Byte) (operand : List Byte) (s : State) : State :=
  if operand.length ≠ 0 then reply src codeFlush .badLength [] s
  else
    let t := reportList (settleTimer (closeAndRelease s))
    reply src codeFlush .ok
      (be8 (drawingStateCode s.matching.drawing) ++ be8 ((s.matching.drawing.map (fun d => d.serial)).getD 0) ++
        be8 t.matching.hold.length) t

/-- The OK reply to RESUME_OUTPUT after its choice has acted (R134, R208). -/
def resumeReply (src : Byte) (i : Instruction) (choice : Byte) (t : State) : State :=
  reply src codeResumeOutput .ok (be16 i.seq ++ [choice] ++ be8 t.output.queue.length) t

/-- RESUME_OUTPUT with a choice that is REISSUE or DROP (R134 steps 3 and 4, R135, R136). -/
def resume (src : Byte) (choice : Byte) (s : State) : State :=
  if s.output.held then
    match s.output.jam with
    | none => reply src codeResumeOutput .state [] s
    | some i =>
      if choice = 1#8 then
        if 25 ≤ s.output.queue.length then reply src codeResumeOutput .busy [] s
        else resumeReply src i choice (reissue i s)
      else resumeReply src i choice (dropJammed s)
  else reply src codeResumeOutput .state [] s

/-- RESUME_OUTPUT (R134). -/
def cmdResumeOutput (src : Byte) (operand : List Byte) (s : State) : State :=
  match operand with
  | [choice] =>
    if choice = 1#8 ∨ choice = 2#8 then resume src choice s
    else reply src codeResumeOutput .badValue [] s
  | _ => reply src codeResumeOutput .badLength [] s

/-! Status, events and counters. -/

/-- READ_STATUS (R185). -/
def cmdReadStatus (src : Byte) (operand : List Byte) (s : State) : State :=
  if operand.length ≠ 0 then reply src codeReadStatus .badLength [] s
  else reply src codeReadStatus .ok (statusData s) s

/-- READ_COUNTERS (R197). -/
def cmdReadCounters (src : Byte) (operand : List Byte) (s : State) : State :=
  match operand with
  | [option] =>
    let data := option :: (counterValues s.command.counters).flatMap be16
    if option = 0#8 then reply src codeReadCounters .ok data s
    else if option = 1#8 then reply src codeReadCounters .ok data { s with command.counters := zeroCounters }
    else reply src codeReadCounters .badValue [] s
  | _ => reply src codeReadCounters .badLength [] s

/-- READ_EVENTS (R191). -/
def cmdReadEvents (src : Byte) (operand : List Byte) (s : State) : State :=
  if operand.length ≠ 0 then reply src codeReadEvents .badLength [] s
  else
    reply src codeReadEvents .ok
      (eventSetBytes s.command.latched ++ eventSetBytes s.command.mask ++ flag8 s.command.arming) s

/-- CLEAR_EVENTS (R191). -/
def cmdClearEvents (src : Byte) (operand : List Byte) (s : State) : State :=
  if operand.length ≠ 3 then reply src codeClearEvents .badLength [] s
  else
    let after := s.command.latched &&& ~~~readEventSet operand
    reply src codeClearEvents .ok (eventSetBytes s.command.latched ++ eventSetBytes after)
      { s with command.latched := after }

/-- SET_MASK (R190): the notice test follows when armed, and the REPLY says whether it queued a NOTICE. -/
def cmdSetMask (src : Byte) (operand : List Byte) (s : State) : State :=
  if operand.length ≠ 3 then reply src codeSetMask .badLength [] s
  else
    let masked := { s with command.mask := readEventSet operand }
    reply src codeSetMask .ok (eventSetBytes masked.command.mask ++ flag8 (noticeFalls masked))
      (noticeTest none masked)

/-- ARM_NOTICE (R194). -/
def cmdArmNotice (src : Byte) (operand : List Byte) (s : State) : State :=
  if operand.length ≠ 0 then reply src codeArmNotice .badLength [] s
  else
    let armed := { s with command.arming := true }
    let t := noticeTest none armed
    reply src codeArmNotice .ok (flag8 t.command.arming ++ flag8 (noticeFalls armed)) t

/-- IDENTIFY (R186). -/
def cmdIdentify (src : Byte) (operand : List Byte) (s : State) : State :=
  if operand.length ≠ 0 then reply src codeIdentify .badLength [] s
  else
    reply src codeIdentify .ok
      (be16 vendorCode ++ be16 partCode ++ be8 revisionNumber ++ be8 s.line.strap.toNat ++
        be8 (s.line.position.getD 255) ++ be8 (modeCode s.line.mode)) s

/-! Taking a command (R170). -/

/-- A command code is executed, or answered UNKNOWN (R170, steps 3 and 4). -/
def execute (src code : Byte) (operand : List Byte) (s : State) : State :=
  if code = codeJoin then cmdJoin src s
  else if code = codeLeave then cmdLeave src operand s
  else if code = codeSetMode then cmdSetMode src operand s
  else if code = codeStationReset then cmdStationReset src operand s
  else if code = codeLoadDensity then cmdLoadDensity src operand s
  else if code = codeLoadSettings then cmdLoadSettings src operand s
  else if code = codeLoadPunch then cmdLoadPunch src operand s
  else if code = codeLoadFields then cmdLoadFields src operand s
  else if code = codeListAppend then cmdListAppend src operand s
  else if code = codeListClear then cmdListClear src operand s
  else if code = codeListQuery then cmdListQuery src operand s
  else if code = codeFlush then cmdFlush src operand s
  else if code = codeResumeOutput then cmdResumeOutput src operand s
  else if code = codeReadStatus then cmdReadStatus src operand s
  else if code = codeReadCounters then cmdReadCounters src operand s
  else if code = codeReadEvents then cmdReadEvents src operand s
  else if code = codeClearEvents then cmdClearEvents src operand s
  else if code = codeSetMask then cmdSetMask src operand s
  else if code = codeArmNotice then cmdArmNotice src operand s
  else if code = codeIdentify then cmdIdentify src operand s
  else reply src code .unknown [] s

/-- Whether a JOIN operand names the station's strap identity (R156). -/
def joinNames (operand : List Byte) (s : State) : Bool :=
  match operand with
  | [b] => decide (b.toNat = s.line.strap.toNat)
  | _ => false

/-- The command unit takes the payload of a COMMAND (R163, R170): no code and no room are dropped commands; a JOIN that is
not acted on has no effect (DEDUCED, notes/assumptions/5.md); every executed command has the place of its REPLY reserved. -/
def takeCommand (src : Byte) (payload : List Byte) (s : State) : State :=
  match payload with
  | [] => advance .droppedCommands s
  | code :: operand =>
    if code = codeJoin ∧ joinNames operand s = false then s
    else if controlRoom s.line then execute src code operand (reservePlace s)
    else advance .droppedCommands s

end Sys2Proof.Machine
end

