-- ==== Sys2Proof/Machine/LinePort.lean ====
section
/-! DEFINITION. The line port: receiver alignment, sorting of good records, roll call, the arbiter, the line path, the
signals and the passing of time (chapter 7). -/

namespace Sys2Proof.Machine

/-! Roll call (R158). -/

/-- The record that passes a ROLL on: kind, destination and source as received (R158, R205). -/
def rollOn (r : Record) (counter : Nat) : Record := { r with payload := be8 counter }

/-- A ROLL with its counter (R158, R163). The place of the ROLL passed on is kept while the roll call acts
(DEDUCED, notes/assumptions/7.md). -/
def takeRoll (r : Record) (counter : Nat) (s : State) : State :=
  if controlRoom s.line then
    if 1 ≤ counter ∧ counter ≤ 62 then
      queueControl (rollOn r (counter + 1)) { s with line.position := some counter }
    else
      freePlace (queueControl (rollOn r counter)
        (occur .positionNone (reservePlace { s with line.position := none })))
  else advance .droppedCommands s

/-! Sorting (R152 to R154, R200). -/

/-- A COMMAND that carries the JOIN code (R152, R206). -/
def isJoinToAll (r : Record) : Bool :=
  decide (r.kind = kindCommand ∧ r.dst = dstAll) && decide (r.payload.head? = some codeJoin)

/-- BYPASS (R152): a JOIN to ALL is acted on when it names the station; on the STORED path every record is forwarded. -/
def sortBypass (r : Record) (s : State) : State :=
  let t := if isJoinToAll r then takeCommand r.src r.payload s else s
  match s.line.path with
  | .through => t
  | .stored => forwardRecord r t

/-- A film record addressed to CONVERTER in CONVERT, of the payload length of its kind, handed to the tracker (R3, R154,
R200); none: not such a record. -/
def takeFilm (r : Record) (s : State) : Option State :=
  if r.dst = dstConverter ∧ s.line.mode = .convert then
    if r.kind = kindReel ∧ r.payload.length = 8 then some (takeReel (readReel r.payload) s)
    else if r.kind = kindMark ∧ r.payload.length = 4 then
      some (takeMark (markOf (r.payload.headD 0#8)) (readBe (r.payload.drop 1)) s)
    else if r.kind = kindScan then some (takeScan r.payload s)
    else if r.kind = kindReelEnd ∧ r.payload.length = 0 then some (takeReelEnd s)
    else none
  else none

/-- A DONE addressed to the station's position: dropped as a stray in PASS, taken in CONVERT (R125, R153, R154). -/
def takeReport (r : Record) (s : State) : State :=
  if s.line.mode = .convert then
    takeDone (readBe (r.payload.take 2)) (decide (r.payload.getD 2 0#8 ≠ 0#8)) s
  else strayDone s

/-- PASS and CONVERT (R153, R154). A fixed-length kind of another length is a record of an unknown kind (R200). A command to
ALL is executed and then forwarded (DEDUCED, notes/assumptions/6.md). -/
def sortStored (r : Record) (s : State) : State :=
  if isPosition s.line r.src then s
  else if r.kind = kindRoll ∧ r.payload.length = 1 then takeRoll r (r.payload.headD 0#8).toNat s
  else if r.kind = kindCommand ∧ isPosition s.line r.dst = true then takeCommand r.src r.payload s
  else if r.kind = kindCommand ∧ r.dst = dstAll then forwardRecord r (takeCommand r.src r.payload s)
  else if r.kind = kindDone ∧ r.payload.length = 3 ∧ isPosition s.line r.dst = true then takeReport r s
  else
    match takeFilm r s with
    | some t => t
    | none => forwardRecord r s

/-! Receiver alignment (R150, R151). -/

/-- A good record in HUNT (R150). -/
def huntGood (s : State) : State :=
  if 3 ≤ s.line.goodRun + 1 then
    { s with line.alignment := .locked, line.goodRun := 0, line.badRun := 0 }
  else { s with line.goodRun := s.line.goodRun + 1 }

/-- A good record in LOCKED sets the bad run count to 0 and is sorted by the station mode (R151 to R154). The count is 0 before the
record acts, so a READ_STATUS reports 0 (DEDUCED, notes/assumptions/28.md). -/
def lockedGood (r : Record) (s : State) : State :=
  let t := { s with line.badRun := 0 }
  match s.line.mode with
  | .bypass => sortBypass r t
  | .pass => sortStored r t
  | .convert => sortStored r t

/-- A bad record in LOCKED (R151). -/
def lockedBad (s : State) : State :=
  let t := occur .checkFail (advance .checkFails s)
  if 8 ≤ s.line.badRun + 1 then
    occur .linkSlip { t with line.alignment := .hunt, line.goodRun := 0, line.badRun := 0 }
  else { t with line.badRun := s.line.badRun + 1 }

/-- A bad record (R150, R151). -/
def receiveBad (s : State) : State :=
  if s.signals.nrstLow then s
  else
    match s.line.alignment with
    | .hunt => { s with line.goodRun := 0 }
    | .locked => lockedBad s

/-- A good record (R150, R151); none is taken while NRST is low (R148; DEDUCED, notes/assumptions/15.md). -/
def receiveGood (r : Record) (s : State) : State :=
  if s.signals.nrstLow then s
  else
    match s.line.alignment with
    | .hunt => huntGood s
    | .locked => lockedGood r s

/-- A record with a right check: good when its payload is at most 320 bytes, bad otherwise (R146). -/
def receive (r : Record) (s : State) : State :=
  if r.payload.length ≤ maxPayload then receiveGood r s else receiveBad s

/-- The bytes that the receiver took as one record, judged by R146. -/
def receiveBytes (bs : List Byte) (s : State) : State :=
  match parseRecord bs with
  | some r => receiveGood r s
  | none => receiveBad s

/-- A COMMAND record (R170, R206). -/
def commandRecord (dst src code : Byte) (operand : List Byte) : Record :=
  { kind := kindCommand, dst := dst, src := src, payload := code :: operand }

/-! The transmit arbiter (R164, R165). -/

/-- The transmit port starts to send a record; how long it takes is open (DESIGN CHOICE, notes/assumptions/22.md). -/
def startSending (forwarded : Bool) (r : Record) (s : State) : State :=
  { s with line.sending := some { forwarded := forwarded, record := r } }

/-- The head instruction is sent (R123, R165): the burst count advances when a forwarded record waits, else becomes 0. -/
def sendInstruction (i : Instruction) (rest : List Instruction) (s : State) : State :=
  let burst := if s.line.forward.isEmpty then 0 else s.line.burst + 1
  let started := startSending false (instructionRecord (originSource s.line) i) { s with line.burst := burst }
  takeInstruction i rest started

/-- The forward queue's head is sent (R164, R165); it stays in the queue until it is sent whole (R161). -/
def sendForwarded (r : Record) (s : State) : State := startSending true r { s with line.burst := 0 }

/-- A choice between the forward queue and the output queue, when no control record waits (R164, cases 2 to 4). -/
def chooseFlow (s : State) : State :=
  match s.line.forward, s.output.queue with
  | [], [] => s
  | [], i :: rest => if maySend s then sendInstruction i rest s else s
  | r :: _, [] => sendForwarded r s
  | r :: _, i :: rest =>
    if maySend s && decide (s.line.burst < s.command.settings.burstLimit) then sendInstruction i rest s
    else sendForwarded r s

/-- One choice of the arbiter (R164): on the STORED path with the transmit port free. -/
def choose (s : State) : State :=
  if s.line.path = .stored ∧ s.line.sending = none then
    match s.line.control with
    | c :: rest => startSending false c.record { s with line.control := rest }
    | [] => chooseFlow s
  else s

/-- A command completely taken: the arbiter then makes its choice from all that waits, which it does when the command has freed
the port or made something first come to wait (R164; DEDUCED as part of the command's step, notes/assumptions/27.md). -/
def completed (s : State) : Host.Outcome State Fault Refusal := .next (choose s)

/-- The transmit port has sent its record whole (R161). -/
def finishSending (s : State) : State :=
  match s.line.sending with
  | none => s
  | some x =>
    if x.forwarded then { s with line.sending := none, line.forward := s.line.forward.drop 1 }
    else { s with line.sending := none }

/-! The line path (R156, R157). -/

/-- The idle fill after a JOIN: a station in PASS or CONVERT still on the THROUGH path comes onto the STORED path (R156;
DEDUCED, notes/assumptions/16.md, 26.md). -/
def pathToStored (s : State) : State :=
  if s.signals.nrstLow = false ∧ s.line.mode ≠ .bypass ∧ s.line.path = .through then
    { s with line.path := .stored }
  else s

/-- Idle fill during a LEAVE drain: the drain ends when both queues are empty and nothing is being sent (R157;
DEDUCED, notes/assumptions/26.md). -/
def drainEnd (s : State) : State :=
  if s.line.mode = .bypass ∧ s.line.path = .stored ∧ s.line.forward = [] ∧ s.line.control = [] ∧
      s.line.sending = none then
    { s with line.path := .through }
  else s

/-! Signals (R148, R149). -/

/-- NRST goes low (R148). -/
def nrstFalls (s : State) : State :=
  { s with signals.nrstLow := true, line.path := .through, line.sending := none }

/-- The value on STRAP_ID becomes this one (R149): each change of value from the strap identity, or further change, latches
STRAP_CHANGED (DEDUCED, notes/assumptions/14.md). -/
def strapMoves (pins : BitVec 4) (s : State) : State :=
  if pins = s.signals.strapPins then s else occur .strapChanged { s with signals.strapPins := pins }

/-! The internal time base (R94, R131). -/

/-- The expiries that are due: timers whose remaining time has reached 0. -/
def dueDeadlines (o : OutputController) : List Instr :=
  (o.inFlight.filter (fun e => e.deadline == 0)).map (fun e => .doneDeadlineExpiry (BitVec.ofNat 16 e.instruction.seq))

/-- The flush timer's expiry when it is due. -/
def dueFlush (m : MatchingEngine) : List Instr := if m.flushTimer = some 0 then [.flushTimerExpiry] else []

/-- The running timers one tenth further (R94, R131). -/
def countDown (s : State) : State :=
  { s with
    matching.flushTimer := s.matching.flushTimer.map (fun r => r - 1)
    output.inFlight := s.output.inFlight.map (fun e => { e with deadline := e.deadline - 1 }) }

/-- A tenth of a second passes while no command waits: timers that reach 0 queue their expiry commands. Which of the flush
timer's and the deadlines' comes first is a free value (DESIGN CHOICE, notes/assumptions/1.md,
3.md). -/
def tick (s : State) : State :=
  let t := countDown s
  match dueFlush t.matching, dueDeadlines t.output with
  | [], ds => { t with pending := t.pending ++ ds }
  | fs, [] => { t with pending := t.pending ++ fs }
  | fs, ds =>
    { t with
      openChoices := t.openChoices + 1
      pending := t.pending ++ (if Config.flushExpiryFirst t.openChoices then fs ++ ds else ds ++ fs) }

end Sys2Proof.Machine
end

