-- ==== Sys2Proof/Machine/FilmCommands.lean ====
section
/-! DEFINITION. The meanings of the film traffic and of the flush timer's expiry: REEL, MARK, SCAN, REEL_END and
FLUSH_TIMER_EXPIRY. -/

namespace Sys2Proof.Machine

/-- REEL (R5, R6, R201). -/
def execReel (dst src : Byte) (number : BitVec 16) (polarity format linePitch : Byte) (counter : BitVec 24)
    (s : State) : Host.Outcome State Fault Refusal :=
  completed (receive { kind := kindReel, dst := dst, src := src,
                       payload := reelPayload number polarity format linePitch counter } s)

/-- MARK (R8 to R13, R201). -/
def execMark (dst src cls : Byte) (counter : BitVec 24) (s : State) : Host.Outcome State Fault Refusal :=
  completed (receive { kind := kindMark, dst := dst, src := src, payload := markPayload cls counter } s)

/-- SCAN (R14, R15, R202). -/
def execScan (dst src : Byte) (payload : List Byte) (s : State) : Host.Outcome State Fault Refusal :=
  completed (receive { kind := kindScan, dst := dst, src := src, payload := payload } s)

/-- REEL_END (R7). -/
def execReelEnd (dst src : Byte) (s : State) : Host.Outcome State Fault Refusal :=
  completed (receive { kind := kindReelEnd, dst := dst, src := src, payload := [] } s)

/-- FLUSH_TIMER_EXPIRY (R95; DESIGN CHOICE, notes/assumptions/2.md). -/
def execFlushTimerExpiry (s : State) : Host.Outcome State Fault Refusal :=
  completed (expireFlush s)

end Sys2Proof.Machine
end

