-- ==== Sys2Proof/Machine/ManagementCommands.lean ====
section
/-! DEFINITION. The meanings of the management commands: each is the arrival of its COMMAND record (R170, R206). -/

namespace Sys2Proof.Machine

/-- JOIN (R156). -/
def execJoin (dst src : Byte) (operand : List Byte) (s : State) : Host.Outcome State Fault Refusal :=
  completed (receive (commandRecord dst src codeJoin operand) s)

/-- LEAVE (R157). -/
def execLeave (dst src : Byte) (operand : List Byte) (s : State) : Host.Outcome State Fault Refusal :=
  completed (receive (commandRecord dst src codeLeave operand) s)

/-- SET_MODE (R177 to R179). -/
def execSetMode (dst src : Byte) (operand : List Byte) (s : State) : Host.Outcome State Fault Refusal :=
  completed (receive (commandRecord dst src codeSetMode operand) s)

/-- STATION_RESET (R181, R182). -/
def execStationReset (dst src : Byte) (operand : List Byte) (s : State) : Host.Outcome State Fault Refusal :=
  completed (receive (commandRecord dst src codeStationReset operand) s)

/-- LOAD_DENSITY (R37, R38). -/
def execLoadDensity (dst src : Byte) (operand : List Byte) (s : State) : Host.Outcome State Fault Refusal :=
  completed (receive (commandRecord dst src codeLoadDensity operand) s)

/-- LOAD_SETTINGS (R174). -/
def execLoadSettings (dst src : Byte) (operand : List Byte) (s : State) : Host.Outcome State Fault Refusal :=
  completed (receive (commandRecord dst src codeLoadSettings operand) s)

/-- LOAD_PUNCH (R113). -/
def execLoadPunch (dst src : Byte) (operand : List Byte) (s : State) : Host.Outcome State Fault Refusal :=
  completed (receive (commandRecord dst src codeLoadPunch operand) s)

/-- LOAD_FIELDS (R108). -/
def execLoadFields (dst src : Byte) (operand : List Byte) (s : State) : Host.Outcome State Fault Refusal :=
  completed (receive (commandRecord dst src codeLoadFields operand) s)

/-- LIST_APPEND (R53 to R58, R88). -/
def execListAppend (dst src : Byte) (operand : List Byte) (s : State) : Host.Outcome State Fault Refusal :=
  completed (receive (commandRecord dst src codeListAppend operand) s)

/-- LIST_CLEAR (R64). -/
def execListClear (dst src : Byte) (operand : List Byte) (s : State) : Host.Outcome State Fault Refusal :=
  completed (receive (commandRecord dst src codeListClear operand) s)

/-- LIST_QUERY (R65). -/
def execListQuery (dst src : Byte) (operand : List Byte) (s : State) : Host.Outcome State Fault Refusal :=
  completed (receive (commandRecord dst src codeListQuery operand) s)

/-- FLUSH (R184). -/
def execFlush (dst src : Byte) (operand : List Byte) (s : State) : Host.Outcome State Fault Refusal :=
  completed (receive (commandRecord dst src codeFlush operand) s)

/-- RESUME_OUTPUT (R134 to R136). -/
def execResumeOutput (dst src : Byte) (operand : List Byte) (s : State) : Host.Outcome State Fault Refusal :=
  completed (receive (commandRecord dst src codeResumeOutput operand) s)

/-- READ_STATUS (R185, R209). -/
def execReadStatus (dst src : Byte) (operand : List Byte) (s : State) : Host.Outcome State Fault Refusal :=
  completed (receive (commandRecord dst src codeReadStatus operand) s)

/-- READ_COUNTERS (R197). -/
def execReadCounters (dst src : Byte) (operand : List Byte) (s : State) : Host.Outcome State Fault Refusal :=
  completed (receive (commandRecord dst src codeReadCounters operand) s)

/-- READ_EVENTS (R191). -/
def execReadEvents (dst src : Byte) (operand : List Byte) (s : State) : Host.Outcome State Fault Refusal :=
  completed (receive (commandRecord dst src codeReadEvents operand) s)

/-- CLEAR_EVENTS (R191). -/
def execClearEvents (dst src : Byte) (operand : List Byte) (s : State) : Host.Outcome State Fault Refusal :=
  completed (receive (commandRecord dst src codeClearEvents operand) s)

/-- SET_MASK (R190). -/
def execSetMask (dst src : Byte) (operand : List Byte) (s : State) : Host.Outcome State Fault Refusal :=
  completed (receive (commandRecord dst src codeSetMask operand) s)

/-- ARM_NOTICE (R194). -/
def execArmNotice (dst src : Byte) (operand : List Byte) (s : State) : Host.Outcome State Fault Refusal :=
  completed (receive (commandRecord dst src codeArmNotice operand) s)

/-- IDENTIFY (R186). -/
def execIdentify (dst src : Byte) (operand : List Byte) (s : State) : Host.Outcome State Fault Refusal :=
  completed (receive (commandRecord dst src codeIdentify operand) s)

end Sys2Proof.Machine
end

