-- ==== Sys2Proof/Machine/MounterCommands.lean ====
section
/-! DEFINITION. The meanings of the mounter exchange and of the transmit port: DONE, DONE_DEADLINE_EXPIRY, ARBITER_CHOICE,
TRANSMIT_COMPLETE, PATH_TO_STORED and LEAVE_DRAIN_END. -/

namespace Sys2Proof.Machine

/-- DONE (R125 to R130, R205). -/
def execDone (dst src : Byte) (seq : BitVec 16) (result : Byte) (s : State) : Host.Outcome State Fault Refusal :=
  completed (receive { kind := kindDone, dst := dst, src := src, payload := donePayload seq result } s)

/-- DONE_DEADLINE_EXPIRY (R131; DESIGN CHOICE, notes/assumptions/2.md). -/
def execDoneDeadlineExpiry (seq : BitVec 16) (s : State) : Host.Outcome State Fault Refusal :=
  completed (expireDeadline seq.toNat s)

/-- ARBITER_CHOICE (R164, R165): the choice that is due, if one is. Each other command makes its own (`completed`). -/
def execArbiterChoice (s : State) : Host.Outcome State Fault Refusal :=
  .next (choose s)

/-- TRANSMIT_COMPLETE (R161). -/
def execTransmitComplete (s : State) : Host.Outcome State Fault Refusal :=
  completed (finishSending s)

/-- PATH_TO_STORED (R156). -/
def execPathToStored (s : State) : Host.Outcome State Fault Refusal :=
  completed (pathToStored s)

/-- LEAVE_DRAIN_END (R157). -/
def execLeaveDrainEnd (s : State) : Host.Outcome State Fault Refusal :=
  completed (drainEnd s)

end Sys2Proof.Machine
end

