-- ==== Sys2Proof/Machine/ReceiverCommands.lean ====
section
/-! DEFINITION. The meanings of the records that the receiver judges, passes on or counts: GOOD_RECORD_IN_HUNT, BAD_RECORD,
FORWARD_RECORD, ROLL, EMPTY_COMMAND and UNKNOWN_COMMAND. A good record is sorted by the state it meets
(DESIGN CHOICE, notes/assumptions/12.md). -/

namespace Sys2Proof.Machine

/-- GOOD_RECORD_IN_HUNT (R150). -/
def execGoodRecordInHunt (r : Record) (s : State) : Host.Outcome State Fault Refusal :=
  completed (receive r s)

/-- BAD_RECORD (R150, R151). Its bytes are judged by R146 (DEDUCED, notes/assumptions/13.md). -/
def execBadRecord (bytes : List Byte) (s : State) : Host.Outcome State Fault Refusal :=
  completed (receiveBytes bytes s)

/-- FORWARD_RECORD (R153, R160, R200). -/
def execForwardRecord (r : Record) (s : State) : Host.Outcome State Fault Refusal :=
  completed (receive r s)

/-- ROLL (R158). -/
def execRoll (dst src counter : Byte) (s : State) : Host.Outcome State Fault Refusal :=
  completed (receive { kind := kindRoll, dst := dst, src := src, payload := [counter] } s)

/-- EMPTY_COMMAND (R170, step 1). -/
def execEmptyCommand (dst src : Byte) (s : State) : Host.Outcome State Fault Refusal :=
  completed (receive { kind := kindCommand, dst := dst, src := src, payload := [] } s)

/-- UNKNOWN_COMMAND (R170, step 3). -/
def execUnknownCommand (dst src code : Byte) (operand : List Byte) (s : State) :
    Host.Outcome State Fault Refusal :=
  completed (receive (commandRecord dst src code operand) s)

end Sys2Proof.Machine
end

