-- ==== Sys2Proof/Machine/SignalCommands.lean ====
section
/-! DEFINITION. The meanings of POWER_ON, NRST_ASSERT, NRST_RELEASE and STRAP_CHANGED (R148, R149). -/

namespace Sys2Proof.Machine

/-- POWER_ON: the effect of a release of NRST (R148). -/
def execPowerOn (pins : BitVec 4) (s : State) : Host.Outcome State Fault Refusal :=
  completed (powerOnState pins s)

/-- NRST_ASSERT (R148). -/
def execNrstAssert (s : State) : Host.Outcome State Fault Refusal :=
  completed (nrstFalls s)

/-- NRST_RELEASE (R148). -/
def execNrstRelease (pins : BitVec 4) (s : State) : Host.Outcome State Fault Refusal :=
  completed (powerOnState pins s)

/-- STRAP_CHANGED (R149). -/
def execStrapChanged (pins : BitVec 4) (s : State) : Host.Outcome State Fault Refusal :=
  completed (strapMoves pins s)

end Sys2Proof.Machine
end

