-- ==== Sys2Proof/Machine/Dispatch.lean ====
section
/-! DEFINITION. The meaning of every command: one arm for each constructor of Instr. -/

namespace Sys2Proof.Machine

def exec (i : Instr) (s : State) : Host.Outcome State Fault Refusal :=
  match i with
  | .powerOn pins => Sys2Proof.Machine.execPowerOn pins s
  | .nrstAssert => Sys2Proof.Machine.execNrstAssert s
  | .nrstRelease pins => Sys2Proof.Machine.execNrstRelease pins s
  | .strapChanged pins => Sys2Proof.Machine.execStrapChanged pins s
  | .goodRecordInHunt r => Sys2Proof.Machine.execGoodRecordInHunt r s
  | .badRecord bytes => Sys2Proof.Machine.execBadRecord bytes s
  | .forwardRecord r => Sys2Proof.Machine.execForwardRecord r s
  | .reel dst src number polarity format linePitch counter => Sys2Proof.Machine.execReel dst src number polarity format linePitch counter s
  | .mark dst src cls counter => Sys2Proof.Machine.execMark dst src cls counter s
  | .scan dst src payload => Sys2Proof.Machine.execScan dst src payload s
  | .reelEnd dst src => Sys2Proof.Machine.execReelEnd dst src s
  | .flushTimerExpiry => Sys2Proof.Machine.execFlushTimerExpiry s
  | .done dst src seq result => Sys2Proof.Machine.execDone dst src seq result s
  | .doneDeadlineExpiry seq => Sys2Proof.Machine.execDoneDeadlineExpiry seq s
  | .arbiterChoice => Sys2Proof.Machine.execArbiterChoice s
  | .roll dst src counter => Sys2Proof.Machine.execRoll dst src counter s
  | .emptyCommand dst src => Sys2Proof.Machine.execEmptyCommand dst src s
  | .unknownCommand dst src code operand => Sys2Proof.Machine.execUnknownCommand dst src code operand s
  | .join dst src operand => Sys2Proof.Machine.execJoin dst src operand s
  | .pathToStored => Sys2Proof.Machine.execPathToStored s
  | .leave dst src operand => Sys2Proof.Machine.execLeave dst src operand s
  | .leaveDrainEnd => Sys2Proof.Machine.execLeaveDrainEnd s
  | .setMode dst src operand => Sys2Proof.Machine.execSetMode dst src operand s
  | .stationReset dst src operand => Sys2Proof.Machine.execStationReset dst src operand s
  | .loadDensity dst src operand => Sys2Proof.Machine.execLoadDensity dst src operand s
  | .loadSettings dst src operand => Sys2Proof.Machine.execLoadSettings dst src operand s
  | .loadPunch dst src operand => Sys2Proof.Machine.execLoadPunch dst src operand s
  | .loadFields dst src operand => Sys2Proof.Machine.execLoadFields dst src operand s
  | .listAppend dst src operand => Sys2Proof.Machine.execListAppend dst src operand s
  | .listClear dst src operand => Sys2Proof.Machine.execListClear dst src operand s
  | .listQuery dst src operand => Sys2Proof.Machine.execListQuery dst src operand s
  | .flush dst src operand => Sys2Proof.Machine.execFlush dst src operand s
  | .resumeOutput dst src operand => Sys2Proof.Machine.execResumeOutput dst src operand s
  | .readStatus dst src operand => Sys2Proof.Machine.execReadStatus dst src operand s
  | .readCounters dst src operand => Sys2Proof.Machine.execReadCounters dst src operand s
  | .readEvents dst src operand => Sys2Proof.Machine.execReadEvents dst src operand s
  | .clearEvents dst src operand => Sys2Proof.Machine.execClearEvents dst src operand s
  | .setMask dst src operand => Sys2Proof.Machine.execSetMask dst src operand s
  | .armNotice dst src operand => Sys2Proof.Machine.execArmNotice dst src operand s
  | .identify dst src operand => Sys2Proof.Machine.execIdentify dst src operand s
  | .transmitComplete => Sys2Proof.Machine.execTransmitComplete s

end Sys2Proof.Machine
end

