-- ==== Sys2Proof/WellFormed.lean ====
section
/-! DEFINITION. Well-formed commands: the records that can stand on the line (R145, R146, R206). -/

namespace Sys2Proof

/-- A payload that a record can carry (R145). -/
def payloadFits (payload : List Byte) : Bool := decide (payload.length ≤ Machine.maxPayload)

/-- An operand that a COMMAND can carry behind its code (R145, R206). -/
def operandFits (operand : List Byte) : Bool := decide (operand.length + 1 ≤ Machine.maxPayload)

/-- Bytes that the receiver takes as one record and finds bad (R146): there is at least one; they make no good record; and
when the length field they hold is at most 320 they do not reach past the record it announces. -/
def isBadRecord (bytes : List Byte) : Bool :=
  !bytes.isEmpty && (Machine.parseRecord bytes).isNone &&
    (match bytes with
      | _ :: _ :: _ :: hi :: lo :: rest =>
        decide (Machine.maxPayload < Machine.readBe [hi, lo]) ||
          decide (rest.length ≤ Machine.readBe [hi, lo] + 2)
      | _ => true)

/-- Well-formed commands. A code that names a command is no UNKNOWN_COMMAND (R170). -/
def wellFormed : Instr → Bool
  | .powerOn _ => true
  | .nrstAssert => true
  | .nrstRelease _ => true
  | .strapChanged _ => true
  | .goodRecordInHunt r => payloadFits r.payload
  | .badRecord bytes => isBadRecord bytes
  | .forwardRecord r => payloadFits r.payload
  | .reel _ _ _ _ _ _ _ => true
  | .mark _ _ _ _ => true
  | .scan _ _ payload => payloadFits payload
  | .reelEnd _ _ => true
  | .flushTimerExpiry => true
  | .done _ _ _ _ => true
  | .doneDeadlineExpiry _ => true
  | .arbiterChoice => true
  | .roll _ _ _ => true
  | .emptyCommand _ _ => true
  | .unknownCommand _ _ code operand => !Machine.commandCodes.contains code && operandFits operand
  | .join _ _ operand => operandFits operand
  | .pathToStored => true
  | .leave _ _ operand => operandFits operand
  | .leaveDrainEnd => true
  | .setMode _ _ operand => operandFits operand
  | .stationReset _ _ operand => operandFits operand
  | .loadDensity _ _ operand => operandFits operand
  | .loadSettings _ _ operand => operandFits operand
  | .loadPunch _ _ operand => operandFits operand
  | .loadFields _ _ operand => operandFits operand
  | .listAppend _ _ operand => operandFits operand
  | .listClear _ _ operand => operandFits operand
  | .listQuery _ _ operand => operandFits operand
  | .flush _ _ operand => operandFits operand
  | .resumeOutput _ _ operand => operandFits operand
  | .readStatus _ _ operand => operandFits operand
  | .readCounters _ _ operand => operandFits operand
  | .readEvents _ _ operand => operandFits operand
  | .clearEvents _ _ operand => operandFits operand
  | .setMask _ _ operand => operandFits operand
  | .armNotice _ _ operand => operandFits operand
  | .identify _ _ operand => operandFits operand
  | .transmitComplete => true

end Sys2Proof
end

