-- ==== Sys2Proof/Safety.lean ====
section
/-! DEFINITION. The laws of the device as predicates of a state, and the terms in which the statements speak of a command that
reaches the command unit, of its REPLY, and of a record that reaches a block. -/

namespace Sys2Proof.Safety

open Sys2Proof.Machine

/-! Laws of the device. Each is a decidable proposition. -/

/-- The density table has 65 points, is non-increasing and lies within 0..400 (R35). -/
abbrev tableLaw (s : State) : Prop :=
  s.density.table.length = 65 ∧ s.density.table.Pairwise (fun a b => b ≤ a) ∧ ∀ v ∈ s.density.table, v ≤ 400

/-- Every setting lies within its range and the four consistency conditions of R174 do not hold (R173, R174). -/
abbrev settingsLaw (s : State) : Prop :=
  let v := s.command.settings
  (1 ≤ v.nMin ∧ v.nMin ≤ 8192 ∧ v.cBlank ≤ 400 ∧ v.cMin ≤ 400 ∧ v.dbLow ≤ 400 ∧ v.dbHigh ≤ 400) ∧
  (50 ≤ v.pitchMin ∧ v.pitchMin ≤ 2000 ∧ 100 ≤ v.pitchMax ∧ v.pitchMax ≤ 4000 ∧ v.trackTol ≤ 500) ∧
  (v.flushTime ≤ 255 ∧ 1 ≤ v.doneTime ∧ v.doneTime ≤ 255 ∧ 1 ≤ v.creditLimit ∧ v.creditLimit ≤ 8) ∧
  (1 ≤ v.burstLimit ∧ v.burstLimit ≤ 32 ∧ 1 ≤ v.stopLevel ∧ v.stopLevel ≤ 24 ∧ v.goLevel ≤ 23 ∧ v.listLow ≤ 255) ∧
  v.pitchMin < v.pitchMax ∧ v.cBlank ≤ v.cMin ∧ v.dbLow ≤ v.dbHigh ∧ v.goLevel < v.stopLevel

/-- A station in BYPASS has no position, and a position is one of 1..62 (R159). -/
abbrev positionLaw (s : State) : Prop :=
  (s.line.mode = .bypass → s.line.position = none) ∧ ∀ p ∈ s.line.position, 1 ≤ p ∧ p ≤ 62

/-- The run counts of the receiver: fewer than 3 good records counted, only in HUNT; fewer than 8 bad ones, only in LOCKED
(R150, R151). -/
abbrev runLaw (s : State) : Prop :=
  s.line.goodRun < 3 ∧ s.line.badRun < 8 ∧ (s.line.alignment = .locked → s.line.goodRun = 0) ∧
  (s.line.alignment = .hunt → s.line.badRun = 0)

/-- The forward queue occupies at most 4096 bytes (R147, R160). -/
abbrev forwardLaw (s : State) : Prop := (s.line.forward.map (fun r => 7 + r.payload.length)).sum ≤ 4096

/-- While NRST is low the line path is THROUGH and nothing is being sent (R148). -/
abbrev signalLaw (s : State) : Prop := s.signals.nrstLow = true → s.line.path = .through ∧ s.line.sending = none

/-- No choice of the arbiter is due: while the transmit port is free on the STORED path, no control record and no forwarded record
waits, and no instruction is sendable (R123, R164). -/
abbrev settledLaw (s : State) : Prop :=
  s.line.path = .stored → s.line.sending = none →
    s.line.control = [] ∧ s.line.forward = [] ∧
    (s.output.queue = [] ∨ s.command.settings.creditLimit ≤ s.output.inFlight.length ∨ s.output.held = true)

/-- The control queue holds at most seven records other than the halt report and at most one halt report, and no place is
reserved between commands (R141, R162, R163). -/
abbrev controlLaw (s : State) : Prop :=
  (s.line.control.filter (fun c => !c.halt)).length ≤ 7 ∧ (s.line.control.filter (fun c => c.halt)).length ≤ 1 ∧
  s.line.replyReserved = false

/-- Outside CONVERT the hold queue, output queue, in-flight list and jam record are empty and the flush timer is stopped
(R68, R94, R121, R179). -/
abbrev quietLaw (s : State) : Prop :=
  s.line.mode ≠ .convert →
    s.matching.hold = [] ∧ s.output.queue = [] ∧ s.output.inFlight = [] ∧ s.output.jam = none ∧
    s.matching.flushTimer = none

/-- Halt reason LIST is set exactly while the drawing is OPEN_UNBOUND, LOST exactly while the tracker is LOST, and JAM
exactly while the jam record is occupied and the output HELD (R27, R73, R129, R135, R136). -/
abbrev haltLaw (s : State) : Prop :=
  s.output.halt.list = s.matching.drawing.any (fun d => d.entry.isNone) ∧ s.output.halt.lost = decide (s.tracker.state = .lost) ∧
  s.output.halt.jam = s.output.held ∧ s.output.held = s.output.jam.isSome

/-- The output queue holds at most 24 instructions, or 25 with a reissued one at its front (R122). -/
abbrev queueLaw (s : State) : Prop :=
  s.output.queue.length ≤ 24 ∨
    (s.output.queue.length = 25 ∧ (s.output.queue.head?.map (fun i => i.reissued)) = some true)

/-- The in-flight list holds no more entries than the credit limit in force (R124). -/
abbrev creditLaw (s : State) : Prop := s.output.inFlight.length ≤ s.command.settings.creditLimit

/-- OUTPUT is set at stop_level and above, and clear at go_level and below (R139). -/
abbrev hysteresisLaw (s : State) : Prop :=
  (s.command.settings.stopLevel ≤ s.output.queue.length → s.output.halt.output = true) ∧
  (s.output.queue.length ≤ s.command.settings.goLevel → s.output.halt.output = false)

/-- The hold queue holds at most 32 slots in strictly increasing frame-number order (R70). -/
abbrev holdLaw (s : State) : Prop :=
  s.matching.hold.length ≤ 32 ∧ (s.matching.hold.map (fun x => x.number)).Pairwise (fun a b => a < b)

/-- A releasable head does not wait while the output queue has room (R91). -/
abbrev releasedLaw (s : State) : Prop := releaseHead s = none

/-- An entry of the drawing list lies within the ranges of R51. -/
abbrev entryLaw (e : Entry) : Prop :=
  1 ≤ e.drawing.length ∧ e.drawing.length ≤ 24 ∧ e.revision.length ≤ 3 ∧ e.title.length ≤ 40 ∧
  1 ≤ e.sheetCount ∧ e.sheetCount ≤ 32

/-- The drawing list holds at most 256 entries; without an expected number it is empty; with one, the list numbers run up to
the expected number without a gap, modulo 65536 (R52). -/
abbrev listLaw (s : State) : Prop :=
  s.list.entries.length ≤ 256 ∧ (∀ e ∈ s.list.entries, entryLaw e) ∧
  (s.list.expected = none → s.list.entries = []) ∧
  ∀ x ∈ s.list.expected, x < 65536 ∧
    s.list.entries.map (fun e => e.listNumber) =
      (List.range s.list.entries.length).map (fun i => (x + 65536 - s.list.entries.length + i) % 65536)

/-- An open drawing has seen at least one sheet, at most 32, and a bound one no more than its sheet count (R71); its entry copy
lies within the ranges of the list it came from (R51, R59, R60). -/
abbrev drawingLaw (s : State) : Prop :=
  ∀ d ∈ s.matching.drawing, 1 ≤ d.sheetsSeen ∧ d.sheetsSeen ≤ 32 ∧
    ∀ e ∈ d.entry, d.sheetsSeen ≤ e.sheetCount ∧ entryLaw e

/-- The accumulators: at most 8192 samples; Dmin and Dmax are none exactly while there is none; the sum lies between n times
Dmin and n times Dmax; every density is at most 400 (R29, R40, R42, R44). -/
abbrev accumulatorLaw (a : Accumulators) : Prop :=
  a.n ≤ 8192 ∧ (a.n = 0 ↔ a.dmin = none) ∧ (a.n = 0 ↔ a.dmax = none) ∧ (a.n = 0 → a.sum = 0) ∧
  (∀ lo ∈ a.dmin, a.n * lo ≤ a.sum) ∧ ∀ hi ∈ a.dmax, a.sum ≤ a.n * hi ∧ hi ≤ 400

/-- The tracker: a frame is in assembly only in ACQUIRE or TRACKING; the acquisition buffer holds at most two frames, none
outside ACQUIRE, each numbered from 1 to the frame counter; a tracker that is not IDLE has reel parameters and a last mark
counter; in IDLE no drawing is open; fewer than 64 frames have closed in ACQUIRE; the frame counter is at most 65535 (R1, R7, R9
to R13, R16, R21 to R24, R94). -/
abbrev trackerLaw (s : State) : Prop :=
  (s.tracker.assembly.isSome = true → s.tracker.state = .acquire ∨ s.tracker.state = .tracking) ∧
  s.tracker.buffer.length ≤ 2 ∧ (s.tracker.state ≠ .acquire → s.tracker.buffer = []) ∧
  (∀ f ∈ s.tracker.buffer, 1 ≤ f.number ∧ f.number ≤ s.tracker.frameCounter) ∧
  (s.tracker.state ≠ .idle → s.tracker.reel.isSome = true ∧ s.tracker.lastMark.isSome = true) ∧
  (s.tracker.state = .idle → s.matching.drawing = none) ∧
  (s.tracker.state = .acquire → s.tracker.closeCount < 64) ∧ s.tracker.frameCounter ≤ 65535

/-- The flush timer runs only in CONVERT and only while a frame is in assembly or a drawing is open (R94). -/
abbrev timerLaw (s : State) : Prop :=
  s.matching.flushTimer ≠ none →
    s.line.mode = .convert ∧ (s.tracker.assembly.isSome = true ∨ s.matching.drawing.isSome = true)

/-- A placement stands on the card (R107). -/
abbrev placementLaw (p : Placement) : Prop := 1 ≤ p.first ∧ 1 ≤ p.width ∧ p.first + p.width - 1 ≤ 80

/-- The composer's tables: at most eight placements, each on the card, and 64 patterns (R99, R107, R112). -/
abbrev composerLaw (s : State) : Prop :=
  s.composer.fieldMap.length ≤ 8 ∧ (∀ p ∈ s.composer.fieldMap, placementLaw p) ∧ s.composer.punch.length = 64

/-! Terms of the statements. -/

/-- The record whose arrival a command is, written out from its layout (R145, R199, R201, R202, R205, R206); none for the
commands that are no arrival of a good record. -/
def recordOf : Instr → Option Record
  | .powerOn _ => none
  | .nrstAssert => none
  | .nrstRelease _ => none
  | .strapChanged _ => none
  | .goodRecordInHunt r => some r
  | .badRecord _ => none
  | .forwardRecord r => some r
  | .reel dst src number polarity format linePitch counter =>
    some ⟨0x10#8, dst, src, be16 number.toNat ++ [polarity, format, linePitch] ++ be24 counter.toNat⟩
  | .mark dst src cls counter => some ⟨0x11#8, dst, src, cls :: be24 counter.toNat⟩
  | .scan dst src payload => some ⟨0x12#8, dst, src, payload⟩
  | .reelEnd dst src => some ⟨0x13#8, dst, src, []⟩
  | .flushTimerExpiry => none
  | .done dst src seq result => some ⟨0x22#8, dst, src, be16 seq.toNat ++ [result]⟩
  | .doneDeadlineExpiry _ => none
  | .arbiterChoice => none
  | .roll dst src counter => some ⟨0x48#8, dst, src, [counter]⟩
  | .emptyCommand dst src => some ⟨0x40#8, dst, src, []⟩
  | .unknownCommand dst src code operand => some ⟨0x40#8, dst, src, code :: operand⟩
  | .join dst src operand => some ⟨0x40#8, dst, src, 0x01#8 :: operand⟩
  | .pathToStored => none
  | .leave dst src operand => some ⟨0x40#8, dst, src, 0x02#8 :: operand⟩
  | .leaveDrainEnd => none
  | .setMode dst src operand => some ⟨0x40#8, dst, src, 0x03#8 :: operand⟩
  | .stationReset dst src operand => some ⟨0x40#8, dst, src, 0x04#8 :: operand⟩
  | .loadDensity dst src operand => some ⟨0x40#8, dst, src, 0x10#8 :: operand⟩
  | .loadSettings dst src operand => some ⟨0x40#8, dst, src, 0x11#8 :: operand⟩
  | .loadPunch dst src operand => some ⟨0x40#8, dst, src, 0x12#8 :: operand⟩
  | .loadFields dst src operand => some ⟨0x40#8, dst, src, 0x13#8 :: operand⟩
  | .listAppend dst src operand => some ⟨0x40#8, dst, src, 0x20#8 :: operand⟩
  | .listClear dst src operand => some ⟨0x40#8, dst, src, 0x21#8 :: operand⟩
  | .listQuery dst src operand => some ⟨0x40#8, dst, src, 0x22#8 :: operand⟩
  | .flush dst src operand => some ⟨0x40#8, dst, src, 0x28#8 :: operand⟩
  | .resumeOutput dst src operand => some ⟨0x40#8, dst, src, 0x29#8 :: operand⟩
  | .readStatus dst src operand => some ⟨0x40#8, dst, src, 0x30#8 :: operand⟩
  | .readCounters dst src operand => some ⟨0x40#8, dst, src, 0x31#8 :: operand⟩
  | .readEvents dst src operand => some ⟨0x40#8, dst, src, 0x32#8 :: operand⟩
  | .clearEvents dst src operand => some ⟨0x40#8, dst, src, 0x33#8 :: operand⟩
  | .setMask dst src operand => some ⟨0x40#8, dst, src, 0x34#8 :: operand⟩
  | .armNotice dst src operand => some ⟨0x40#8, dst, src, 0x35#8 :: operand⟩
  | .identify dst src operand => some ⟨0x40#8, dst, src, 0x3F#8 :: operand⟩
  | .transmitComplete => none

/-- The receiver takes records and sorts them: NRST is high and the alignment is LOCKED (R148, R151). -/
abbrev listening (s : State) : Prop := s.signals.nrstLow = false ∧ s.line.alignment = .locked

/-- A COMMAND with this destination and source is executed: the receiver sorts records, the station is in PASS or CONVERT, the
record is not its own come round, it is addressed to the station's position or to ALL, and there is room for the REPLY (R153, R163,
R170). -/
abbrev delivered (s : State) (dst src : Byte) : Prop :=
  listening s ∧ s.line.mode ≠ .bypass ∧ isPosition s.line src = false ∧
  (isPosition s.line dst = true ∨ dst = 63#8) ∧ controlRoom s.line = true

/-- A record with this source reaches the sorting of CONVERT (R154). -/
abbrev converting (s : State) (src : Byte) : Prop :=
  listening s ∧ s.line.mode = .convert ∧ isPosition s.line src = false

/-- The state with a REPLY at the tail of the control queue, and nothing else changed (R170, R208): kind 0x41, to the
source of the COMMAND, from the position or 255; the command code, the status code and the data. -/
def withReply (src code status : Byte) (data : List Byte) (s : State) : State :=
  { s with
    line.control := s.line.control ++
      [{ halt := false
         record := { kind := 0x41#8, dst := src
                     src := (match s.line.position with | some p => BitVec.ofNat 8 p | none => 255#8)
                     payload := code :: status :: data } }]
    line.replyReserved := false }

/-- The state that a good record meets when it is sorted: the bad run count is 0 (R151). -/
def sorted (s : State) : State := { s with line.badRun := 0 }

/-- A good record that a station in PASS or CONVERT only passes on: not its own come round, and in no row of the sorting but
the last (R153, R154, R200). -/
abbrev onlyPassed (s : State) (r : Record) : Prop :=
  s.line.mode ≠ .bypass ∧ isPosition s.line r.src = false ∧
  ¬(r.kind = 0x48#8 ∧ r.payload.length = 1) ∧
  ¬(r.kind = 0x40#8 ∧ (isPosition s.line r.dst = true ∨ r.dst = 63#8)) ∧
  ¬(r.kind = 0x22#8 ∧ r.payload.length = 3 ∧ isPosition s.line r.dst = true) ∧
  ¬(s.line.mode = .convert ∧ r.dst = 66#8 ∧
    (r.kind = 0x10#8 ∧ r.payload.length = 8 ∨ r.kind = 0x11#8 ∧ r.payload.length = 4 ∨ r.kind = 0x12#8 ∨
      r.kind = 0x13#8 ∧ r.payload.length = 0))

/-- A record that a station in BYPASS acts on: a JOIN to ALL with its strap identity (R152, R156). -/
abbrev joinsBypass (s : State) (r : Record) : Prop :=
  r.kind = 0x40#8 ∧ r.dst = 63#8 ∧ ∃ b, r.payload = [0x01#8, b] ∧ b.toNat = s.line.strap.toNat

/-- The arbiter's choice that ends every command (R164, R165): on the STORED path with the port free, the control queue's head; else a
sendable instruction, unless a forwarded record waits and the burst count has reached burst_limit; else the forward queue's head;
else nothing. That the OUTPUT test comes before release is the model's choice (DEDUCED, notes/assumptions/10.md), and so is that the
choice is part of the command's step (DEDUCED, notes/assumptions/27.md). -/
def arbitrated (s : State) : State :=
  if s.line.path = .through ∨ s.line.sending ≠ none then s
  else
    match s.line.control with
    | x :: q => { s with line.control := q, line.sending := some { forwarded := false, record := x.record } }
    | [] =>
      let forwarding := match s.line.forward with
        | [] => s
        | r :: _ => { s with line.burst := 0, line.sending := some { forwarded := true, record := r } }
      match s.output.queue with
      | [] => forwarding
      | i :: rest =>
        if s.output.inFlight.length < s.command.settings.creditLimit ∧ s.output.held = false ∧
            (s.line.forward = [] ∨ s.line.burst < s.command.settings.burstLimit) then
          release (outputTest { s with
            line.burst := if s.line.forward = [] then 0 else s.line.burst + 1
            line.sending := some
              { forwarded := false
                record := instructionRecord
                  (match s.line.position with | some p => BitVec.ofNat 8 p | none => 255#8) i }
            output.queue := rest
            output.inFlight := s.output.inFlight ++
              [{ instruction := i, deadline := s.command.settings.doneTime }] })
        else forwarding

/-- The tail of the forward queue takes the record when it fits (R160). -/
def passOn (r : Record) (s : State) : State :=
  if (s.line.forward.map (fun x => 7 + x.payload.length)).sum + (7 + r.payload.length) ≤ 4096 then
    { s with line.forward := s.line.forward ++ [r] }
  else
    occur .fwdOverflow
      { s with command.counters.forwardOverflows := saturate s.command.counters.forwardOverflows }

/-- What becomes of a COMMAND after it has acted (R153): addressed to the position it goes no further; addressed to ALL it is
forwarded. That it is forwarded in the state its effect leaves, and not before it acts, is the model's choice (DEDUCED,
notes/assumptions/6.md). -/
def passedOn (dst src code : Byte) (operand : List Byte) (s t : State) : State :=
  if isPosition s.line dst then t else passOn ⟨0x40#8, dst, src, code :: operand⟩ t

/-- A COMMAND answered: the REPLY to it queued in the state its effect leaves, and after that, by the model's choice (DEDUCED,
notes/assumptions/6.md), the COMMAND itself forwarded when it was addressed to ALL (R153, R160, R170). -/
def answer (dst src code : Byte) (operand : List Byte) (status : Byte) (data : List Byte) (s t : State) : State :=
  passedOn dst src code operand s (withReply src code status data t)

/-- The 16-bit word at place k of an operand of words, high byte first (R199, R206). -/
def wordAt (operand : List Byte) (k : Nat) : Nat :=
  256 * (operand.getD (2 * k) 0#8).toNat + (operand.getD (2 * k + 1) 0#8).toNat

/-- The flush timer after a MARK or SCAN (R94): it runs with flush_time while a frame is in assembly or a drawing is open, and
flush_time is not 0; otherwise it stops. -/
def restarted (s : State) : State :=
  { s with
    matching.flushTimer :=
      if (s.tracker.assembly.isSome || s.matching.drawing.isSome) && decide (s.command.settings.flushTime ≠ 0) then
        some s.command.settings.flushTime
      else none }

/-- What film traffic and the flush timer leave as it was: the signals; the line port but for its control queue; the density
table, the expected number, the composer; what has been sent to the mounter and the jam; the settings and the mask set. -/
def filmKeeps (s t : State) : Prop :=
  t.signals = s.signals ∧ t.line = { s.line with control := t.line.control } ∧ t.density.table = s.density.table ∧
  t.list.expected = s.list.expected ∧ t.composer = s.composer ∧ t.output.inFlight = s.output.inFlight ∧
  t.output.jam = s.output.jam ∧ t.output.held = s.output.held ∧ t.command.settings = s.command.settings ∧
  t.command.mask = s.command.mask

/-- Frames flagged LEADER (R22, R24). -/
def leaders (fs : List ClosedFrame) : List ClosedFrame := fs.map (fun f => { f with leader := true })

/-- A frame closes on an exhausted frame counter (R16): it is discarded without a number, the accumulators are emptied, REEL_FULL
latches, the tracker is FULL, and the acquisition buffer goes out as LEADER frames. -/
def fullReel (o : Occasion) (s : State) : State :=
  let t := occur .reelFull { s with
    tracker.assembly := none
    density.acc := { n := 0, sum := 0, dmin := none, dmax := none, overflow := false } }
  handOver o (leaders t.tracker.buffer) { t with tracker.state := .full, tracker.buffer := [] }

/-- The frame in assembly, if there is one, closes (R9, R16, R19): numbered, it goes through the acquisition rules in ACQUIRE and is
handed over otherwise; on an exhausted frame counter the reel is full. -/
def closeFrame (o : Occasion) (p : PitchSource) (s : State) : State :=
  match s.tracker.assembly with
  | none => s
  | some a =>
    if s.tracker.frameCounter < 65535 then
      let f := closedFrame p a s
      if s.tracker.state = .acquire then acquire o f (afterClose f s) else handOver o [f] (afterClose f s)
    else fullReel (if o = .live then .exhausted else o) s

/-- The open drawing, if there is one, closes and release runs (R85). -/
def endDrawing (s : State) : State := if s.matching.drawing = none then s else release (closeDrawing s)

/-- Steps 1 to 3 of R6, and the same at a REEL_END (R7): the frame in assembly closes with an estimated pitch, the acquisition
buffer goes out as LEADER frames, and the drawing closes. -/
def endOfReel (s : State) : State :=
  let t := closeFrame .reelChange .estimated s
  endDrawing (handOver .reelChange (leaders t.tracker.buffer) { t with tracker.buffer := [] })

/-- The bytes of one entry of a LIST_APPEND operand (R207). -/
def entryBytes (e : RawEntry) : List Byte :=
  be8 e.drawing.length ++ e.drawing ++ be8 e.revision.length ++ e.revision ++ be8 e.sheetCount ++
  be8 e.title.length ++ e.title

/-- The 80 columns that the items of a punch image stand for (R115). -/
def itemPatterns : PunchItem → List Pattern
  | .run k => List.replicate k 0#12
  | .literal p => [p]

/-- The values of the READ_STATUS reply with their offset and size (R209), each code written out (R201, R208, R209). -/
def statusTable (s : State) : List (Nat × Nat × Nat) :=
  let yes (b : Bool) : Nat := if b then 1 else 0
  let l := s.line
  let t := s.tracker
  let d := s.density
  let m := s.matching
  let o := s.output
  let v := s.command.settings
  let polarity (p : Polarity) : Nat := match p with | .negative => 0 | .positive => 1
  let format (f : SampleFormat) : Nat := match f with | .w16 => 0 | .w12 => 1 | .w8p => 2
  let mark (c : MarkClass) : Nat := match c with | .doc => 0 | .sheet => 1 | .retake => 2 | .target => 3 | .unknown => 4
  let density (c : DensityClass) : Nat :=
    match c with | .unmeasured => 0 | .blank => 1 | .thin => 2 | .dense => 3 | .flat => 4 | .good => 5
  let free (x : Slot) : Bool := match x.body, m.drawing with
    | .card (.bound _ serial _) _, some d => decide (serial ≠ d.serial)
    | .card (.unbound serial _) _, some d => decide (serial ≠ d.serial)
    | _, _ => true
  [(0, 1, match l.mode with | .bypass => 0 | .pass => 1 | .convert => 2),
   (1, 1, match l.path with | .through => 0 | .stored => 1),
   (2, 1, match l.alignment with | .hunt => 0 | .locked => 1), (3, 1, l.goodRun),
   (4, 1, l.badRun), (5, 1, l.position.getD 255), (6, 1, l.strap.toNat), (7, 1, s.signals.strapPins.toNat),
   (8, 2, (l.forward.map (fun r => 7 + r.payload.length)).sum), (10, 2, l.forward.length), (12, 1, l.control.length),
   (13, 1, ((l.control.find? (fun c => c.halt)).map (fun c => if c.record.kind = 0x30#8 then 1 else 2)).getD 0),
   (14, 1, l.burst)] ++
  [(15, 1, match t.state with
      | .idle => 0 | .acquire => 1 | .tracking => 2 | .rewound => 3 | .lost => 4 | .full => 5),
   (16, 1, yes t.reel.isSome), (17, 2, (t.reel.map (fun r => r.number)).getD 0),
   (19, 1, (t.reel.map (fun r => polarity r.polarity)).getD 0),
   (20, 1, (t.reel.map (fun r => format r.format)).getD 0),
   (21, 1, (t.reel.map (fun r => r.linePitch)).getD 0), (22, 3, (t.reel.map (fun r => r.counterAtLoad)).getD 0),
   (25, 1, yes t.pitchChecking), (26, 1, yes t.lastMark.isSome), (27, 3, t.lastMark.getD 0), (30, 4, t.nextNew),
   (34, 2, t.frameCounter), (36, 1, yes t.assembly.isSome), (37, 1, (t.assembly.map (fun a => mark a.mark)).getD 0),
   (38, 3, (t.assembly.map (fun a => a.counter)).getD 0), (41, 2, (t.assembly.map (fun a => a.lines)).getD 0),
   (43, 1, (t.assembly.map (fun a => yes a.lineOverflow)).getD 0), (44, 1, t.buffer.length), (45, 1, t.closeCount)] ++
  [(46, 2, d.acc.n), (48, 3, d.acc.sum), (51, 2, d.acc.dmin.getD 0), (53, 2, d.acc.dmax.getD 0),
   (55, 1, yes d.acc.overflow), (56, 2, (d.last.map (fun r => r.n)).getD 0), (58, 2, (d.last.map (fun r => r.dmin)).getD 0),
   (60, 2, (d.last.map (fun r => r.dmean)).getD 0), (62, 2, (d.last.map (fun r => r.dmax)).getD 0),
   (64, 2, (d.last.map (fun r => r.contrast)).getD 0), (66, 1, (d.last.map (fun r => density r.cls)).getD 0),
   (67, 1, (d.last.map (fun r => yes r.overflow)).getD 0)] ++
  [(68, 2, s.list.entries.length), (70, 1, yes (!s.list.entries.isEmpty)),
   (71, 2, (s.list.entries.head?.map (fun e => e.listNumber)).getD 0), (73, 1, yes s.list.expected.isSome),
   (74, 2, s.list.expected.getD 0)] ++
  [(76, 1, m.hold.length), (77, 2, (m.hold.head?.map (fun x => x.number)).getD 0),
   (79, 2, (m.hold.getLast?.map (fun x => x.number)).getD 0), (81, 1, (m.hold.filter free).length),
   (82, 1, match m.drawing with | none => 0 | some d => if d.entry.isSome then 1 else 2), (83, 1, (m.drawing.map (fun x => x.serial)).getD 0),
   (84, 1, (m.drawing.map (fun x => x.sheetsSeen)).getD 0),
   (85, 1, yes (m.drawing.any (fun x => x.entry.isSome))),
   (86, 2, ((m.drawing.bind (fun x => x.entry)).map (fun e => e.listNumber)).getD 0), (88, 1, yes m.recent.isSome),
   (89, 1, (m.recent.map (fun x => x.serial)).getD 0), (90, 1, m.serial), (91, 1, yes m.flushTimer.isSome),
   (92, 1, m.flushTimer.getD 0)] ++
  [(93, 1, o.queue.length), (94, 1, yes (!o.queue.isEmpty)), (95, 2, (o.queue.head?.map (fun i => i.seq)).getD 0),
   (97, 1, o.inFlight.length), (98, 1, yes (!o.inFlight.isEmpty)),
   (99, 2, (o.inFlight.head?.map (fun e => e.instruction.seq)).getD 0),
   (101, 1, (o.inFlight.head?.map (fun e => e.deadline)).getD 0), (102, 1, yes o.jam.isSome),
   (103, 2, (o.jam.map (fun i => i.seq)).getD 0), (105, 1, yes o.held),
   (106, 1, yes o.halt.output + 2 * yes o.halt.jam + 4 * yes o.halt.list + 8 * yes o.halt.lost), (107, 2, o.nextSeq)] ++
  ([v.nMin, v.cBlank, v.cMin, v.dbLow, v.dbHigh, v.pitchMin, v.pitchMax, v.trackTol, yes v.countInvalid, yes v.poorReject,
    yes v.suspectReject, v.flushTime, v.doneTime, v.creditLimit, v.burstLimit, v.stopLevel, v.goLevel,
    v.listLow] : List Nat).zipIdx.map (fun p => (109 + 2 * p.2, 2, p.1)) ++
  [(145, 1, yes s.command.arming)]

/-- Every law together. -/
abbrev lawful (s : State) : Prop :=
  tableLaw s ∧ settingsLaw s ∧ positionLaw s ∧ runLaw s ∧ signalLaw s ∧ settledLaw s ∧ forwardLaw s ∧ controlLaw s ∧
  quietLaw s ∧ haltLaw s ∧
  queueLaw s ∧ creditLaw s ∧ hysteresisLaw s ∧ holdLaw s ∧ releasedLaw s ∧ listLaw s ∧ drawingLaw s ∧
  accumulatorLaw s.density.acc ∧ trackerLaw s ∧ timerLaw s ∧ composerLaw s

end Sys2Proof.Safety
end

