-- ==== Sys2Proof/Certificates/Slice0/Obligations.lean ====
section
/-! DEFINITION. The statements about the model, for the provers. A command's effect is followed by the arbiter's choice, which the term
`arbitrated` writes out and ArbiterChooses states; what a statement says of a state t beside `arbitrated t` holds before that choice. -/

section

open Sys2Proof Sys2Proof.Machine Sys2Proof.Safety

/-! The machine: the queue of commands and the tick. -/

/-- Every command is completely taken in every state: exec answers a next state, and leaves the waiting commands and the count
of open choices alone (R170, and the order of tasks of the chapters: no command stops the part). -/
def Obligations.EveryCommandCompletes : Prop :=
  ∀ (c : Instr) (s : State), ∃ t, exec c s = .next t ∧ t.pending = s.pending ∧ t.openChoices = s.openChoices

/-- A step runs the command at the front of the queue on the state with the queue's rest. -/
def Obligations.StepRunsFrontCommand : Prop :=
  ∀ (c : Instr) (rest : List Instr) (s : State), s.pending = c :: rest → step s = exec c { s with pending := rest }

/-- With no command waiting a step is a tenth of a second: the running timers fall by one and nothing else but the queue and the
count of open choices changes; the queue receives one FLUSH_TIMER_EXPIRY when the flush timer has reached 0 and one
DONE_DEADLINE_EXPIRY for each in-flight entry whose deadline has. The model's choice (notes/assumptions/1.md, 3.md). -/
def Obligations.EmptyQueueTicks : Prop :=
  ∀ s : State, s.pending = [] → ∃ n p,
    step s = .next { s with
      matching.flushTimer := s.matching.flushTimer.map (fun r => r - 1)
      output.inFlight := s.output.inFlight.map (fun e => { e with deadline := e.deadline - 1 })
      openChoices := n
      pending := p } ∧
    p.filter (fun c => c != .flushTimerExpiry) =
      (s.output.inFlight.filter (fun e => decide (e.deadline ≤ 1))).map
        (fun e => .doneDeadlineExpiry (BitVec.ofNat 16 e.instruction.seq)) ∧
    p.filter (fun c => c == .flushTimerExpiry) =
      (if s.matching.flushTimer = some 0 ∨ s.matching.flushTimer = some 1 then [.flushTimerExpiry] else [])

/-! Signals (R148, R149). -/

/-- NRST low: path THROUGH, the record being sent cut off, all else as it stood, and no record taken. Its release and
power-on: every element of every block at its power-on value, the strap identity read from the pins (R1, R29, R49, R67, R99,
R120, R147, R148, R173, R187, R196). A change of the pins latches STRAP_CHANGED and leaves the strap identity (R149). The
model's choices in it: that all else stays while NRST is low (notes/assumptions/15.md); that nothing is being sent, no place
is kept and NRST is high after power-on (notes/assumptions/24.md); that every change of the pins latches and a report of the
value they have is no change (notes/assumptions/14.md). Then the arbiter chooses (`arbitrated`, by the model's choices of
notes/assumptions/10.md and 27.md). -/
def Obligations.SignalsTaken : Prop :=
  (∀ s, exec .nrstAssert s =
    .next { s with signals.nrstLow := true, line.path := .through, line.sending := none }) ∧
  (∀ c s, s.signals.nrstLow = true → ((recordOf c).isSome = true ∨ ∃ bytes, c = .badRecord bytes) →
    exec c s = .next (arbitrated s)) ∧
  (∀ pins s, exec (.powerOn pins) s = exec (.nrstRelease pins) s ∧
    exec (.nrstRelease pins) s = .next
      { signals := { nrstLow := false, strapPins := pins }
        line :=
          { mode := .bypass, path := .through, alignment := .hunt, goodRun := 0, badRun := 0, position := none,
            strap := pins, forward := [], control := [], replyReserved := false, burst := 0, sending := none }
        tracker :=
          { state := .idle, reel := none, pitchChecking := true, lastMark := none, nextNew := 0, frameCounter := 0,
            assembly := none, buffer := [], closeCount := 0 }
        density :=
          { table := defaultDensityTable, acc := { n := 0, sum := 0, dmin := none, dmax := none, overflow := false },
            last := none }
        list := { entries := [], expected := none }
        matching := { hold := [], drawing := none, recent := none, serial := 0, flushTimer := none }
        composer := { fieldMap := defaultFieldMap, punch := defaultPunch }
        output :=
          { queue := [], nextSeq := 0, inFlight := [], jam := none, held := false,
            halt := { output := false, jam := false, list := false, lost := false } }
        command :=
          { settings :=
              { nMin := 64, cBlank := 20, cMin := 60, dbLow := 80, dbHigh := 200, pitchMin := 300, pitchMax := 600,
                trackTol := 30, countInvalid := false, poorReject := true, suspectReject := false, flushTime := 20,
                doneTime := 40, creditLimit := 4, burstLimit := 4, stopLevel := 16, goLevel := 8, listLow := 4 }
            latched := 0#24, mask := 0x9EEEF9#24, arming := false
            counters :=
              { framesAccepted := 0, replaysSkipped := 0, duplicates := 0, cards := 0, wastes := 0, superseded := 0,
                lostFrames := 0, unconfirmed := 0, strays := 0, jamLost := 0, checkFails := 0, forwardOverflows := 0,
                droppedCommands := 0, badScanLines := 0, ignoredInIdle := 0 } }
        openChoices := s.openChoices
        pending := s.pending }) ∧
  ∀ pins s, exec (.strapChanged pins) s =
    .next (arbitrated
      (if pins = s.signals.strapPins then s else occur .strapChanged { s with signals.strapPins := pins }))

/-- The default tables: the density table follows 100 log10 (64 / k) rounded half up, said over whole numbers as
10 ^ (2 T - 1) k ^ 200 <= 64 ^ 200 < 10 ^ (2 T + 1) k ^ 200 (R36); the six placements (R107); the punch patterns (R112). -/
def Obligations.DefaultTables : Prop :=
  defaultDensityTable.length = 65 ∧ defaultDensityTable.getD 0 0 = 400 ∧
  (∀ k, 1 ≤ k → k ≤ 64 →
    10 ^ (2 * defaultDensityTable.getD k 0) * k ^ 200 ≤ 10 * 64 ^ 200 ∧
    64 ^ 200 < 10 ^ (2 * defaultDensityTable.getD k 0 + 1) * k ^ 200) ∧
  defaultFieldMap.map (fun p => (p.field, p.first, p.width, p.justify)) =
    [(.drawing, 1, 24, .left), (.sheet, 26, 5, .right), (.revision, 32, 3, .left), (.frameRef, 36, 10, .left),
     (.note, 47, 3, .left), (.title, 51, 30, .left)] ∧
  defaultPunch =
    List.replicate 16 0#12 ++
    [0x200#12, 0x100#12, 0x080#12, 0x040#12, 0x020#12, 0x010#12, 0x008#12, 0x004#12, 0x002#12, 0x001#12] ++
    List.replicate 7 0#12 ++
    [0x900#12, 0x880#12, 0x840#12, 0x820#12, 0x810#12, 0x808#12, 0x804#12, 0x802#12, 0x801#12] ++
    [0x500#12, 0x480#12, 0x440#12, 0x420#12, 0x410#12, 0x408#12, 0x404#12, 0x402#12, 0x401#12] ++
    [0x280#12, 0x240#12, 0x220#12, 0x210#12, 0x208#12, 0x204#12, 0x202#12, 0x201#12] ++
    List.replicate 5 0#12

/-! Events and notices (R187 to R193). -/

/-- The 24 events have the codes 0 to 23 in the order of their table (R188). An event that occurs joins the latched set; a
NOTICE with the latched unmasked events and the event's code is queued, and arming becomes OFF, exactly when arming is ON, the
event is not masked, the station is in PASS or CONVERT and fewer than seven records other than the halt report wait, a
reserved place counted (R163, R189, R192, R193, R205). -/
def Obligations.EventOccurs : Prop :=
  ([.checkFail, .linkSlip, .fwdOverflow, .strapChanged, .positionNone, .noReel, .acquireFail, .reversal, .frameLost,
    .missedMark, .sliver, .trackMismatch, .reelFull, .sampleOverflow, .tableRepaired, .listLow, .listEmpty, .missingSheet,
    .lateRetake, .earlyRelease, .unlistedFrame, .jam, .doneTimeout, .strayDone] : List Event).map eventCode =
    List.range 24 ∧
  ∀ (e : Event) (s : State),
    occur e s =
      if s.command.arming = true ∧ s.command.mask.getLsbD (eventCode e) = false ∧ s.line.mode ≠ .bypass ∧
          (s.line.control.filter (fun c => !c.halt)).length + (if s.line.replyReserved then 1 else 0) < 7 then
        { s with
          command.latched := s.command.latched ||| (1#24 <<< eventCode e)
          command.arming := false
          line.control := s.line.control ++
            [{ halt := false
               record :=
                 { kind := 0x42#8, dst := 0#8
                   src := (match s.line.position with | some p => BitVec.ofNat 8 p | none => 255#8)
                   payload :=
                     be24 ((s.command.latched ||| (1#24 <<< eventCode e)) &&& ~~~s.command.mask).toNat ++
                     [BitVec.ofNat 8 (eventCode e)] } }] }
      else { s with command.latched := s.command.latched ||| (1#24 <<< eventCode e) }

/-! The line port: alignment, sorting, roll call, ring membership, arbiter (R145 to R168). -/

/-- Alignment. In HUNT every good record only advances the good run count, and the third locks; a bad one sets it to 0 (R150).
In LOCKED a bad record is discarded with its counter and CHECK_FAIL, and the eighth in a row returns to HUNT with LINK_SLIP
(R151). Then the arbiter chooses (`arbitrated`, by the model's choices of notes/assumptions/10.md and 27.md). -/
def Obligations.AlignmentFollowsRuns : Prop :=
  (∀ c r s, recordOf c = some r → r.payload.length ≤ 320 → s.signals.nrstLow = false → s.line.alignment = .hunt →
    exec c s = .next (arbitrated (if s.line.goodRun < 2 then { s with line.goodRun := s.line.goodRun + 1 }
      else { s with line.alignment := .locked, line.goodRun := 0, line.badRun := 0 }))) ∧
  (∀ bytes s, isBadRecord bytes = true → s.signals.nrstLow = false → s.line.alignment = .hunt →
    exec (.badRecord bytes) s = .next (arbitrated { s with line.goodRun := 0 })) ∧
  ∀ bytes s, isBadRecord bytes = true → listening s →
    exec (.badRecord bytes) s =
      let t := occur .checkFail
        { s with command.counters.checkFails := saturate s.command.counters.checkFails }
      .next (arbitrated (if s.line.badRun < 7 then { t with line.badRun := s.line.badRun + 1 }
        else occur .linkSlip { t with line.alignment := .hunt, line.goodRun := 0, line.badRun := 0 }))

/-- A good record that the station does not act on. In PASS and CONVERT: its own record come round is discarded, and a record
in the last row of the sorting joins the forward queue if it fits, whatever command of the table brings it. In BYPASS: carried
on electrically on the THROUGH path, forwarded on the STORED path, but for the JOIN that names the station (R152 to R154,
R160, R200). Then the arbiter chooses (`arbitrated`, by the model's choices of notes/assumptions/10.md and 27.md). -/
def Obligations.RecordPassedOn : Prop :=
  ∀ c r s, recordOf c = some r → r.payload.length ≤ 320 → listening s →
    (s.line.mode ≠ .bypass → isPosition s.line r.src = true → exec c s = .next (arbitrated (sorted s))) ∧
    (onlyPassed s r → exec c s = .next (arbitrated (passOn r (sorted s)))) ∧
    (s.line.mode = .bypass → ¬joinsBypass s r →
      exec c s = .next (arbitrated (match s.line.path with | .through => sorted s | .stored => passOn r (sorted s))))

/-- A COMMAND handed to the command unit that holds no command code, or finds no reply room, is not executed: dropped commands
advances, and it is forwarded all the same when addressed to ALL (R160, R163, R170). EMPTY_COMMAND is the first of these; a
JOIN in BYPASS without room stands in JoinTaken. A counter advances by one and stays at 65535 (R196). That the counter
advances before the COMMAND is forwarded is the model's choice (notes/assumptions/6.md). Then the arbiter chooses
(`arbitrated`, by the model's choices of notes/assumptions/10.md and 27.md). -/
def Obligations.CommandDropped : Prop :=
  (∀ n, saturate n = if n < 65535 then n + 1 else n) ∧
  ∀ c r s, recordOf c = some r → r.payload.length ≤ 320 → listening s → s.line.mode ≠ .bypass →
    isPosition s.line r.src = false → r.kind = 0x40#8 → (isPosition s.line r.dst = true ∨ r.dst = 63#8) →
    (r.payload = [] ∨
      (7 ≤ (s.line.control.filter (fun x => !x.halt)).length + (if s.line.replyReserved then 1 else 0) ∧
        (r.payload.head? = some 0x01#8 → ∃ b, r.payload = [0x01#8, b] ∧ b.toNat = s.line.strap.toNat))) →
    exec c s =
      let t := { sorted s with
        command.counters.droppedCommands := saturate s.command.counters.droppedCommands }
      .next (arbitrated (if isPosition s.line r.dst then t else passOn r t))

/-- The room test of the control queue: fewer than seven records other than the halt report wait, a reserved place counted;
and the station's position as a header byte (R153, R163). ROLL: the counter becomes the position and goes on raised by one;
out of 1..62 the position becomes none with POSITION_NONE and the counter goes on unchanged; without room it is discarded as a
dropped command (R158, R163). The NOTICE of POSITION_NONE goes before the ROLL passed on (notes/assumptions/7.md). Then the
arbiter chooses (`arbitrated`, by the model's choices of notes/assumptions/10.md and 27.md). -/
def Obligations.RollTaken : Prop :=
  (∀ l : LinePort, controlRoom l = true ↔
    (l.control.filter (fun c => !c.halt)).length + (if l.replyReserved then 1 else 0) < 7) ∧
  (∀ (l : LinePort) (b : Byte), isPosition l b = true ↔ l.position = some b.toNat) ∧
  ∀ (s : State) (dst src counter : Byte), listening s → s.line.mode ≠ .bypass → isPosition s.line src = false →
    (controlRoom s.line = true → 1 ≤ counter.toNat → counter.toNat ≤ 62 →
      exec (.roll dst src counter) s = .next (arbitrated { sorted s with
        line.position := some counter.toNat
        line.control := s.line.control ++
          [{ halt := false, record := ⟨0x48#8, dst, src, [counter + 1#8]⟩ }] })) ∧
    (controlRoom s.line = true → (counter = 0#8 ∨ 63 ≤ counter.toNat) →
      exec (.roll dst src counter) s =
        let t := occur .positionNone { sorted s with line.position := none, line.replyReserved := true }
        .next (arbitrated { t with
          line.control := t.line.control ++ [{ halt := false, record := ⟨0x48#8, dst, src, [counter]⟩ }]
          line.replyReserved := false })) ∧
    (controlRoom s.line = false →
      exec (.roll dst src counter) s = .next (arbitrated { sorted s with
        command.counters.droppedCommands := saturate s.command.counters.droppedCommands }))

/-- JOIN with the station's strap identity: a station in BYPASS comes into PASS, on the STORED path the record is forwarded
too; in PASS and CONVERT nothing changes; each answers OK with the strap identity. Without reply room a station in BYPASS
stays there and counts a dropped command. A JOIN that names no such station is not acted on: to ALL it is forwarded, to the
position it goes no further (R153, R156, R163, R196). The model's choices in it: that a JOIN to the position that names
another station goes no further and has no effect (notes/assumptions/5.md); that a station joining on the THROUGH path is in
PASS at once and its path stays THROUGH until PATH_TO_STORED (notes/assumptions/16.md); that the record is forwarded after its
effect (notes/assumptions/6.md). Then the arbiter chooses (`arbitrated`, by the model's choices of notes/assumptions/10.md and
27.md). -/
def Obligations.JoinTaken : Prop :=
  ∀ (s : State) (dst src : Byte) (operand : List Byte), listening s → operand.length ≤ 319 →
    (s.line.mode = .bypass → dst = 63#8 → controlRoom s.line = true →
      (∃ b, operand = [b] ∧ b.toNat = s.line.strap.toNat) →
      exec (.join dst src operand) s =
        let t := withReply src 0x01#8 0#8 [BitVec.ofNat 8 s.line.strap.toNat] { sorted s with line.mode := .pass }
        .next (arbitrated (match s.line.path with
          | .through => t
          | .stored => passOn ⟨0x40#8, dst, src, 0x01#8 :: operand⟩ t))) ∧
    (s.line.mode = .bypass → dst = 63#8 → controlRoom s.line = false →
      (∃ b, operand = [b] ∧ b.toNat = s.line.strap.toNat) →
      exec (.join dst src operand) s =
        let t := { sorted s with
          command.counters.droppedCommands := saturate s.command.counters.droppedCommands }
        .next (arbitrated (match s.line.path with
          | .through => t
          | .stored => passOn ⟨0x40#8, dst, src, 0x01#8 :: operand⟩ t))) ∧
    (delivered s dst src → (∃ b, operand = [b] ∧ b.toNat = s.line.strap.toNat) →
      exec (.join dst src operand) s =
        .next (arbitrated (answer dst src 0x01#8 operand 0#8 [BitVec.ofNat 8 s.line.strap.toNat] s (sorted s)))) ∧
    (s.line.mode ≠ .bypass → isPosition s.line src = false → (isPosition s.line dst = true ∨ dst = 63#8) →
      (¬∃ b, operand = [b] ∧ b.toNat = s.line.strap.toNat) →
      exec (.join dst src operand) s = .next (arbitrated (passedOn dst src 0x01#8 operand s (sorted s))))

/-- PATH_TO_STORED: with NRST high, in PASS or CONVERT, a THROUGH path becomes STORED (R156). LEAVE_DRAIN_END: the drain ends
on the THROUGH path when both queues are empty and nothing is being sent (R157). TRANSMIT_COMPLETE: the port is free, and a
forwarded record's bytes are freed with it (R161). Nothing else changes, and otherwise nothing happens. The model's choices in
it: that PATH_TO_STORED acts in any state with NRST high and not only after a JOIN (notes/assumptions/16.md), and that it and
LEAVE_DRAIN_END stand for the moments at which idle fill shows their ends (notes/assumptions/26.md). Then the arbiter chooses
(`arbitrated`, by the model's choices of notes/assumptions/10.md and 27.md). -/
def Obligations.PathAndPortFollow : Prop :=
  ∀ s : State,
    exec .pathToStored s =
      .next (arbitrated (if s.signals.nrstLow = false ∧ s.line.mode ≠ .bypass ∧ s.line.path = .through then
        { s with line.path := .stored } else s)) ∧
    exec .leaveDrainEnd s =
      .next (arbitrated (if s.line.mode = .bypass ∧ s.line.path = .stored ∧ s.line.forward = [] ∧ s.line.control = [] ∧
          s.line.sending = none then { s with line.path := .through } else s)) ∧
    exec .transmitComplete s =
      .next (arbitrated (match s.line.sending with
        | none => s
        | some ⟨true, _⟩ => { s with line.sending := none, line.forward := s.line.forward.tail }
        | some ⟨false, _⟩ => { s with line.sending := none }))

/-- The arbiter's choice on the STORED path with the port free: the control queue's head; else a sendable instruction while
the burst count allows it or no forwarded record waits; else the forward queue's head; else nothing. The burst count is 0
after a forwarded record and after an instruction sent while none waited, and one more after an instruction sent past one. The
instruction sent joins the in-flight list with done_time, and the OUTPUT test and release follow (R123, R164, R165).
`arbitrated` is this choice, and it ends every command: after any command no choice is due (R164). The model's choices in it:
the OUTPUT test comes before the release (notes/assumptions/10.md), and the choice is part of the step of the command that
frees the port or makes something wait (notes/assumptions/27.md). -/
def Obligations.ArbiterChooses : Prop :=
  (∀ s : State, exec .arbiterChoice s = .next (arbitrated s)) ∧
  (∀ (c : Instr) (s t : State), exec c s = .next t → settledLaw t) ∧
  (∀ s : State, (s.line.path = .through ∨ s.line.sending ≠ none) → exec .arbiterChoice s = .next s) ∧
  ∀ s : State, s.line.path = .stored → s.line.sending = none →
    let may := s.output.inFlight.length < s.command.settings.creditLimit ∧ s.output.held = false
    (∀ x q, s.line.control = x :: q →
      exec .arbiterChoice s =
        .next { s with line.control := q, line.sending := some { forwarded := false, record := x.record } }) ∧
    (s.line.control = [] →
      (∀ i rest, s.output.queue = i :: rest → may →
        (s.line.forward = [] ∨ s.line.burst < s.command.settings.burstLimit) →
        exec .arbiterChoice s =
          .next (release (outputTest { s with
            line.burst := if s.line.forward = [] then 0 else s.line.burst + 1
            line.sending := some
              { forwarded := false
                record := instructionRecord
                  (match s.line.position with | some p => BitVec.ofNat 8 p | none => 255#8) i }
            output.queue := rest
            output.inFlight := s.output.inFlight ++
              [{ instruction := i, deadline := s.command.settings.doneTime }] }))) ∧
      (∀ r rest, s.line.forward = r :: rest →
        (s.output.queue = [] ∨ ¬may ∨ s.command.settings.burstLimit ≤ s.line.burst) →
        exec .arbiterChoice s =
          .next { s with line.burst := 0, line.sending := some { forwarded := true, record := r } }) ∧
      (s.line.forward = [] → (s.output.queue = [] ∨ ¬may) → exec .arbiterChoice s = .next s))

/-- A record's bytes: kind, destination, source, payload length, payload and check, numbers high byte first; and the check, a
register from 0xFFFF that takes each byte's bits from the most significant down, by the polynomial 0x1021 (R145, R146, R199).
The bytes of a record and the receiver's judgement of bytes agree: a record within the payload limit, written with its check,
is read back whole as a good record, and whatever is read as a good record is exactly the bytes of that record (R145, R146,
R199). -/
def Obligations.RecordBytesRoundTrip : Prop :=
  (∀ n, be16 n = [BitVec.ofNat 8 (n / 256), BitVec.ofNat 8 n] ∧
    be24 n = [BitVec.ofNat 8 (n / 65536), BitVec.ofNat 8 (n / 256), BitVec.ofNat 8 n] ∧
    be32 n = [BitVec.ofNat 8 (n / 16777216), BitVec.ofNat 8 (n / 65536), BitVec.ofNat 8 (n / 256), BitVec.ofNat 8 n]) ∧
  checkOf [] = 0xFFFF#16 ∧
  (∀ (bytes : List Byte) (b : Byte), checkOf (bytes ++ [b]) =
    [7, 6, 5, 4, 3, 2, 1, 0].foldl
      (fun (reg : BitVec 16) k => if reg.msb ≠ b.getLsbD k then (reg <<< 1) ^^^ 0x1021#16 else reg <<< 1) (checkOf bytes)) ∧
  (∀ r : Record,
    let body := [r.kind, r.dst, r.src] ++ be16 r.payload.length ++ r.payload
    recordBytes r = body ++ be16 (checkOf body).toNat) ∧
  (∀ r : Record, r.payload.length ≤ 320 → parseRecord (recordBytes r) = some r) ∧
  ∀ (bytes : List Byte) (r : Record), parseRecord bytes = some r → r.payload.length ≤ 320 ∧ recordBytes r = bytes

/-! Management commands (chapter 8 and the commands of the other chapters). In each, the station executes the COMMAND (the term
`delivered`), `sorted s` is the state it meets, and `answer` queues the REPLY and forwards a COMMAND addressed to ALL. In every one of
them, that the COMMAND is forwarded in the state its effect leaves is the model's choice (notes/assumptions/6.md). -/

/-- SET_MODE: CONVERT is taken in PASS and CONVERT; PASS in CONVERT is refused with BUSY and the four lengths while any of
them holds work, and otherwise stops the flush timer; the present mode changes nothing; another byte is BAD_VALUE (R177 to
R179, R206, R208). Then the arbiter chooses (`arbitrated`, by the model's choices of notes/assumptions/10.md and 27.md). -/
def Obligations.SetModeTaken : Prop :=
  ∀ (s : State) (dst src : Byte), delivered s dst src →
    let idle := s.matching.hold = [] ∧ s.output.queue = [] ∧ s.output.inFlight = [] ∧ s.output.jam = none
    exec (.setMode dst src [2#8]) s =
      .next (arbitrated (answer dst src 0x03#8 [2#8] 0#8 [2#8] s { sorted s with line.mode := .convert })) ∧
    (s.line.mode = .pass →
      exec (.setMode dst src [1#8]) s = .next (arbitrated (answer dst src 0x03#8 [1#8] 0#8 [1#8] s (sorted s)))) ∧
    (s.line.mode = .convert → idle →
      exec (.setMode dst src [1#8]) s =
        .next (arbitrated (answer dst src 0x03#8 [1#8] 0#8 [1#8] s
          { sorted s with line.mode := .pass, matching.flushTimer := none }))) ∧
    (s.line.mode = .convert → ¬idle →
      exec (.setMode dst src [1#8]) s =
        .next (arbitrated (answer dst src 0x03#8 [1#8] 6#8
          [BitVec.ofNat 8 s.matching.hold.length, BitVec.ofNat 8 s.output.queue.length,
           BitVec.ofNat 8 s.output.inFlight.length, if s.output.jam = none then 0#8 else 1#8] s (sorted s)))) ∧
    ∀ m, m ≠ 1#8 → m ≠ 2#8 →
      exec (.setMode dst src [m]) s = .next (arbitrated (answer dst src 0x03#8 [m] 2#8 [] s (sorted s)))

/-- STATION_RESET and LEAVE: the REPLY joins the control queue first and says, for STATION_RESET, what is discarded; then the
blocks take their reset values; after STATION_RESET the mode is PASS, after LEAVE it is BYPASS on the STORED path without a
position (R2, R30, R68, R121, R157, R181, R182). The model's choices in it: the REPLY to a LEAVE has the position before it as
its source (notes/assumptions/4.md), and a COMMAND to ALL is forwarded after the reset, on counters at 0
(notes/assumptions/6.md). Then the arbiter chooses (`arbitrated`, by the model's choices of notes/assumptions/10.md and
27.md). -/
def Obligations.ResetAndLeaveTaken : Prop :=
  ∀ (s : State) (dst src : Byte), delivered s dst src →
    let blocks (t : State) : State :=
      { t with
        tracker :=
          { state := .idle, reel := none, pitchChecking := true, lastMark := none, nextNew := 0, frameCounter := 0,
            assembly := none, buffer := [], closeCount := 0 }
        density.acc := { n := 0, sum := 0, dmin := none, dmax := none, overflow := false }
        density.last := none
        matching.hold := []
        matching.drawing := none
        matching.recent := none
        matching.flushTimer := none
        output.queue := []
        output.inFlight := []
        output.jam := none
        output.held := false
        output.halt := { output := false, jam := false, list := false, lost := false }
        command.counters :=
          { framesAccepted := 0, replaysSkipped := 0, duplicates := 0, cards := 0, wastes := 0, superseded := 0,
            lostFrames := 0, unconfirmed := 0, strays := 0, jamLost := 0, checkFails := 0, forwardOverflows := 0,
            droppedCommands := 0, badScanLines := 0, ignoredInIdle := 0 } }
    exec (.stationReset dst src []) s =
      .next (arbitrated (passedOn dst src 0x04#8 [] s
        { blocks (withReply src 0x04#8 0#8
            [if s.line.mode = .convert then 2#8 else 1#8, BitVec.ofNat 8 s.matching.hold.length,
             BitVec.ofNat 8 (s.output.queue.length + s.output.inFlight.length +
               (if s.output.jam = none then 0 else 1)),
             if s.tracker.assembly = none then 0#8 else 1#8] (sorted s)) with line.mode := .pass })) ∧
    exec (.leave dst src []) s =
      .next (arbitrated (passedOn dst src 0x02#8 [] s
        { blocks (withReply src 0x02#8 0#8 [] (sorted s)) with
          line.mode := .bypass, line.path := .stored, line.position := none }))

/-- LOAD_DENSITY in PASS: point k of the new table is the smallest of 400 and the values sent up to k; the REPLY counts the
values above 400 and the points that repair lowered; TABLE_REPAIRED latches exactly when repair changed a point (R37, R38).
That a COMMAND to ALL is forwarded after that is the model's choice (notes/assumptions/6.md). Then the arbiter chooses
(`arbitrated`, by the model's choices of notes/assumptions/10.md and 27.md). -/
def Obligations.LoadDensityTaken : Prop :=
  ∀ (s : State) (dst src : Byte) (operand : List Byte), delivered s dst src → s.line.mode = .pass →
    operand.length = 130 →
    let table := (List.range 65).map (fun k => (List.range (k + 1)).foldl (fun m j => min m (wordAt operand j)) 400)
    let clamped := ((List.range 65).filter (fun k => decide (400 < wordAt operand k))).length
    let repaired := ((List.range 65).filter (fun k => decide (table.getD k 0 < min (wordAt operand k) 400))).length
    let t := { sorted s with density.table := table, line.replyReserved := true }
    exec (.loadDensity dst src operand) s =
      .next (arbitrated (answer dst src 0x10#8 operand 0#8 [BitVec.ofNat 8 clamped, BitVec.ofNat 8 repaired] s
        (if repaired = 0 then t else occur .tableRepaired t)))

/-- LOAD_SETTINGS in PASS: the 18 values are clamped into their ranges; the first consistency condition that holds refuses the
load with its number; else all 18 settings are replaced and the REPLY counts the values clamped (R173, R174). Then the arbiter
chooses (`arbitrated`, by the model's choices of notes/assumptions/10.md and 27.md). -/
def Obligations.LoadSettingsTaken : Prop :=
  ∀ (s : State) (dst src : Byte) (operand : List Byte), delivered s dst src → s.line.mode = .pass →
    operand.length = 36 →
    let range := [(1, 8192), (0, 400), (0, 400), (0, 400), (0, 400), (50, 2000), (100, 4000), (0, 500), (0, 1), (0, 1),
      (0, 1), (0, 255), (1, 255), (1, 8), (1, 32), (1, 24), (0, 23), (0, 255)]
    let v (k : Nat) : Nat := max (range.getD k (0, 0)).1 (min (wordAt operand k) (range.getD k (0, 0)).2)
    let failing : Nat :=
      if v 6 ≤ v 5 then 1 else if v 2 < v 1 then 2 else if v 4 < v 3 then 3 else if v 15 ≤ v 16 then 4 else 0
    let clamped := ((List.range 18).filter (fun k => decide (v k ≠ wordAt operand k))).length
    (failing ≠ 0 →
      exec (.loadSettings dst src operand) s =
        .next (arbitrated (answer dst src 0x11#8 operand 2#8 [BitVec.ofNat 8 failing] s (sorted s)))) ∧
    (failing = 0 →
      exec (.loadSettings dst src operand) s =
        .next (arbitrated (answer dst src 0x11#8 operand 0#8 [BitVec.ofNat 8 clamped] s
          { sorted s with command.settings :=
              { nMin := v 0, cBlank := v 1, cMin := v 2, dbLow := v 3, dbHigh := v 4, pitchMin := v 5,
                pitchMax := v 6, trackTol := v 7, countInvalid := v 8 == 1, poorReject := v 9 == 1,
                suspectReject := v 10 == 1, flushTime := v 11, doneTime := v 12, creditLimit := v 13,
                burstLimit := v 14, stopLevel := v 15, goLevel := v 16, listLow := v 17 } })))

/-- LOAD_PUNCH in PASS: all 64 patterns are bits 11..0 of the values; the REPLY counts the codes other than space without
holes and says whether space has none (R113, R204). Then the arbiter chooses (`arbitrated`, by the model's choices of
notes/assumptions/10.md and 27.md). -/
def Obligations.LoadPunchTaken : Prop :=
  ∀ (s : State) (dst src : Byte) (operand : List Byte), delivered s dst src → s.line.mode = .pass →
    operand.length = 128 →
    let punch : List Pattern := (List.range 64).map (fun k => BitVec.ofNat 12 (wordAt operand k))
    let empties := ((List.range 64).filter (fun k => decide (k ≠ 0 ∧ punch.getD k 0#12 = 0#12))).length
    exec (.loadPunch dst src operand) s =
      .next (arbitrated (answer dst src 0x12#8 operand 0#8
        [BitVec.ofNat 8 empties, if punch.getD 0 0#12 = 0#12 then 1#8 else 0#8] s
        { sorted s with composer.punch := punch }))

/-- LOAD_FIELDS in PASS: the first placement with a code, column or width outside those defined refuses the load with its
position; else the placements, each cut to end at column 80, replace the field map in their order, and the REPLY counts them
and those cut (R107, R108, R207). Then the arbiter chooses (`arbitrated`, by the model's choices of notes/assumptions/10.md
and 27.md). -/
def Obligations.LoadFieldsTaken : Prop :=
  ∀ (s : State) (dst src count : Byte) (body : List Byte), delivered s dst src → s.line.mode = .pass →
    count.toNat ≤ 8 → body.length = 4 * count.toNat →
    let item (k j : Nat) : Nat := (body.getD (4 * k + j) 0#8).toNat
    let good (k : Nat) : Prop :=
      item k 0 ≤ 5 ∧ 1 ≤ item k 1 ∧ item k 1 ≤ 80 ∧ 1 ≤ item k 2 ∧ item k 3 ≤ 1
    let fields : List Field := [.drawing, .sheet, .revision, .title, .frameRef, .note]
    (∀ k, k < count.toNat → ¬good k → (∀ j, j < k → good j) →
      exec (.loadFields dst src (count :: body)) s =
        .next (arbitrated (answer dst src 0x13#8 (count :: body) 2#8 [BitVec.ofNat 8 (k + 1)] s (sorted s)))) ∧
    ((∀ k, k < count.toNat → good k) →
      exec (.loadFields dst src (count :: body)) s =
        .next (arbitrated (answer dst src 0x13#8 (count :: body) 0#8
          [count, BitVec.ofNat 8 ((List.range count.toNat).filter
            (fun k => decide (80 < item k 1 + item k 2 - 1))).length] s
          { sorted s with composer.fieldMap := (List.range count.toNat).map (fun k =>
              { field := fields.getD (item k 0) .drawing, first := item k 1
                width := min (item k 2) (81 - item k 1)
                justify := if item k 3 = 0 then .left else .right }) })))

/-- The operand of LIST_APPEND and its bytes agree: every first number with 1 to 64 entries, laid out byte for byte, is read
back as they are, and whatever is read is the layout of what was read (R53, R207). -/
def Obligations.AppendOperandRoundTrip : Prop :=
  (∀ (first : Nat) (es : List RawEntry), first < 65536 → 1 ≤ es.length → es.length ≤ 64 →
    (∀ e ∈ es, e.drawing.length ≤ 255 ∧ e.revision.length ≤ 255 ∧ e.sheetCount ≤ 255 ∧ e.title.length ≤ 255) →
    readAppend (be16 first ++ be8 es.length ++ es.flatMap entryBytes) = some (first, es)) ∧
  ∀ (operand : List Byte) (first : Nat) (es : List RawEntry), readAppend operand = some (first, es) →
    first < 65536 ∧ 1 ≤ es.length ∧ es.length ≤ 64 ∧
    operand = be16 first ++ be8 es.length ++ es.flatMap entryBytes

/-- LIST_APPEND accepted: the entries, folded into the card alphabet, join the tail with consecutive numbers, and the expected
number follows. With an OPEN_UNBOUND drawing the head entry leaves the list, LIST_LOW is tested, the drawing binds, its held
slots become BOUND or, beyond the sheet count, EXTRA exceptions, LIST is cleared and release runs; else nothing binds. The
REPLY counts the bytes replaced and says whether it bound (R54 to R58, R60, R88, R208). That LIST is reported after the
release is the model's choice (notes/assumptions/8.md). The premise haltLaw is an invariant of its own. Then the arbiter
chooses (`arbitrated`, by the model's choices of notes/assumptions/10.md and 27.md). -/
def Obligations.AppendAccepted : Prop :=
  ∀ (s : State) (dst src : Byte) (operand : List Byte) (first : Nat) (es : List RawEntry),
    delivered s dst src → haltLaw s → operand.length ≤ 319 → readAppend operand = some (first, es) →
    (∀ e ∈ es, 1 ≤ e.drawing.length ∧ e.drawing.length ≤ 24 ∧ e.revision.length ≤ 3 ∧ e.title.length ≤ 40 ∧
      1 ≤ e.sheetCount ∧ e.sheetCount ≤ 32) →
    (s.list.expected = none ∨ s.list.expected = some first) → s.list.entries.length + es.length ≤ 256 →
    let fold (b : Byte) : Byte :=
      if 0x20 ≤ b.toNat ∧ b.toNat ≤ 0x5F then b
      else if 0x61 ≤ b.toNat ∧ b.toNat ≤ 0x7A then BitVec.ofNat 8 (b.toNat - 0x20)
      else 0x3F#8
    let replaced := ((es.flatMap (fun e => e.drawing ++ e.revision ++ e.title)).filter
      (fun b => decide (fold b = 0x3F#8 ∧ b ≠ 0x3F#8))).length
    let bindTo (e : Entry) (serial : Nat) (x : Slot) : Slot :=
      let sheetOf (sheet : Nat) : Binding :=
        if sheet ≤ e.sheetCount then .bound e serial sheet else .except .extra
      match x.body with
      | .card (.unbound k sheet) g => if k = serial then { x with body := .card (sheetOf sheet) g } else x
      | .card (.bound _ k sheet) g => if k = serial then { x with body := .card (sheetOf sheet) g } else x
      | _ => x
    let joined : List Entry := s.list.entries ++ es.zipIdx.map (fun p =>
      { listNumber := (first + p.2) % 65536, drawing := p.1.drawing.map fold
        revision := p.1.revision.map fold, sheetCount := p.1.sheetCount, title := p.1.title.map fold })
    let next := (first + es.length) % 65536
    let data (bound : Byte) (length : Nat) : List Byte :=
      be8 es.length ++ be16 replaced ++ [bound] ++ be16 length ++ be16 next
    ((∀ d, s.matching.drawing = some d → d.entry ≠ none) →
      exec (.listAppend dst src operand) s =
        .next (arbitrated (answer dst src 0x20#8 operand 0#8 (data 0#8 joined.length) s
          { sorted s with list := { entries := joined, expected := some next } }))) ∧
    ∀ d e rest, s.matching.drawing = some d → d.entry = none → joined = e :: rest →
      exec (.listAppend dst src operand) s =
        let t := { sorted s with
          list := { entries := rest, expected := some next }, line.replyReserved := true }
        let u := if rest.length ≤ s.command.settings.listLow then occur .listLow t else t
        let v := release { u with
          matching.drawing := some { d with entry := some e, sheetsSeen := min d.sheetsSeen e.sheetCount }
          matching.hold := u.matching.hold.map (bindTo e d.serial) }
        .next (arbitrated (answer dst src 0x20#8 operand 0#8 (data 1#8 rest.length) s (requestHalt .list false v)))

/-- LIST_APPEND refused: BAD_LENGTH for an operand that is no first number with 1 to 64 whole entries; BAD_VALUE with the
position of the first entry out of range; SEQUENCE with the expected number; LIST_FULL with the length. Nothing else changes
(R53 to R56, R58, R171). Then the arbiter chooses (`arbitrated`, by the model's choices of notes/assumptions/10.md and 27.md). -/
def Obligations.AppendRefused : Prop :=
  ∀ (s : State) (dst src : Byte) (operand : List Byte), delivered s dst src → operand.length ≤ 319 →
    let good (e : RawEntry) : Prop :=
      1 ≤ e.drawing.length ∧ e.drawing.length ≤ 24 ∧ e.revision.length ≤ 3 ∧ e.title.length ≤ 40 ∧
      1 ≤ e.sheetCount ∧ e.sheetCount ≤ 32
    (readAppend operand = none →
      exec (.listAppend dst src operand) s = .next (arbitrated (answer dst src 0x20#8 operand 1#8 [] s (sorted s)))) ∧
    ∀ first es, readAppend operand = some (first, es) →
      (∀ before e after, es = before ++ e :: after → (∀ x ∈ before, good x) → ¬good e →
        exec (.listAppend dst src operand) s =
          .next (arbitrated (answer dst src 0x20#8 operand 2#8 (be8 (before.length + 1)) s (sorted s)))) ∧
      ((∀ e ∈ es, good e) →
        (∀ x, s.list.expected = some x → x ≠ first →
          exec (.listAppend dst src operand) s =
            .next (arbitrated (answer dst src 0x20#8 operand 3#8 (be16 x) s (sorted s)))) ∧
        ((s.list.expected = none ∨ s.list.expected = some first) → 256 < s.list.entries.length + es.length →
          exec (.listAppend dst src operand) s =
            .next (arbitrated (answer dst src 0x20#8 operand 4#8 (be16 s.list.entries.length) s (sorted s)))))

/-- FLUSH: with no drawing open only the flush timer may stop; an open drawing closes, release runs, the timer stops unless a
frame is in assembly, and LIST is cleared. The REPLY reports the drawing state before, the serial closed and the hold queue's
length after (R85, R94, R184, R208). That LIST is reported after the release is the model's choice (notes/assumptions/8.md).
Then the arbiter chooses (`arbitrated`, by the model's choices of notes/assumptions/10.md and 27.md). -/
def Obligations.FlushTaken : Prop :=
  ∀ (s : State) (dst src : Byte), delivered s dst src → haltLaw s →
    let settled (t : State) : State :=
      { t with matching.flushTimer := if s.tracker.assembly = none then none else t.matching.flushTimer }
    (s.matching.drawing = none →
      exec (.flush dst src []) s =
        .next (arbitrated (answer dst src 0x28#8 [] 0#8 [0#8, 0#8, BitVec.ofNat 8 s.matching.hold.length] s
          (settled (sorted s))))) ∧
    ∀ d, s.matching.drawing = some d →
      exec (.flush dst src []) s =
        let t := settled (release (closeDrawing { sorted s with line.replyReserved := true }))
        .next (arbitrated (answer dst src 0x28#8 [] 0#8
          [if d.entry = none then 2#8 else 1#8, BitVec.ofNat 8 d.serial, BitVec.ofNat 8 t.matching.hold.length] s
          (requestHalt .list false t)))

/-- RESUME_OUTPUT: STATE when not HELD; BUSY for a REISSUE on 25 instructions; REISSUE puts the jammed instruction, marked, at
the head of the output queue, DROP gives it up as jam-lost; either empties the jam record, ends the hold and clears JAM; after
REISSUE the OUTPUT test and release follow (R134 to R136, R208). Then the arbiter chooses (`arbitrated`, by the model's
choices of notes/assumptions/10.md and 27.md). -/
def Obligations.ResumeOutputTaken : Prop :=
  ∀ (s : State) (dst src : Byte), delivered s dst src →
    let reserved := { sorted s with line.replyReserved := true }
    (∀ choice, choice = 1#8 ∨ choice = 2#8 → s.output.held = false →
      exec (.resumeOutput dst src [choice]) s =
        .next (arbitrated (answer dst src 0x29#8 [choice] 7#8 [] s (sorted s)))) ∧
    ∀ i, s.output.held = true → s.output.jam = some i →
      (25 ≤ s.output.queue.length →
        exec (.resumeOutput dst src [1#8]) s = .next (arbitrated (answer dst src 0x29#8 [1#8] 6#8 [] s (sorted s)))) ∧
      (s.output.queue.length < 25 →
        exec (.resumeOutput dst src [1#8]) s =
          let t := release (outputTest (requestHalt .jam false { reserved with
            output.queue := { i with reissued := true } :: s.output.queue
            output.jam := none
            output.held := false }))
          .next (arbitrated (answer dst src 0x29#8 [1#8] 0#8
            (be16 i.seq ++ [1#8] ++ be8 t.output.queue.length) s t))) ∧
      exec (.resumeOutput dst src [2#8]) s =
        .next (arbitrated (answer dst src 0x29#8 [2#8] 0#8 (be16 i.seq ++ [2#8] ++ be8 s.output.queue.length) s
          (requestHalt .jam false { reserved with
            command.counters.jamLost := saturate s.command.counters.jamLost
            output.jam := none
            output.held := false })))

/-- LIST_QUERY, READ_STATUS, READ_COUNTERS with option 0, READ_EVENTS and IDENTIFY change nothing and answer what stands at
their arrival; READ_COUNTERS with option 1 answers the counters and clears them; LIST_CLEAR empties the list and its expected
number and answers how many entries left (R64, R65, R185, R186, R191, R196, R197, R208). That READ_STATUS reports the bad run
count after its own record, 0, is the model's choice (notes/assumptions/28.md). Then the arbiter chooses (`arbitrated`, by the
model's choices of notes/assumptions/10.md and 27.md). -/
def Obligations.QueriesAnswer : Prop :=
  ∀ (s : State) (dst src : Byte), delivered s dst src →
    let n := s.command.counters
    let counters := (([n.framesAccepted, n.replaysSkipped, n.duplicates, n.cards, n.wastes, n.superseded, n.lostFrames,
      n.unconfirmed, n.strays, n.jamLost, n.checkFails, n.forwardOverflows, n.droppedCommands, n.badScanLines,
      n.ignoredInIdle] : List Nat).map be16).flatten
    exec (.listClear dst src []) s =
      .next (arbitrated (answer dst src 0x21#8 [] 0#8 (be16 s.list.entries.length) s
        { sorted s with list := { entries := [], expected := none } })) ∧
    exec (.listQuery dst src []) s =
      .next (arbitrated (answer dst src 0x22#8 [] 0#8
        (be16 s.list.entries.length ++
          (match s.list.entries with | [] => [0#8, 0#8, 0#8] | e :: _ => 1#8 :: be16 e.listNumber) ++
          (match s.list.expected with | none => [0#8, 0#8, 0#8] | some x => 1#8 :: be16 x)) s (sorted s))) ∧
    exec (.readStatus dst src []) s =
      .next (arbitrated (answer dst src 0x30#8 [] 0#8 (statusData (sorted s)) s (sorted s))) ∧
    exec (.readCounters dst src [0#8]) s =
      .next (arbitrated (answer dst src 0x31#8 [0#8] 0#8 (0#8 :: counters) s (sorted s))) ∧
    exec (.readCounters dst src [1#8]) s =
      .next (arbitrated (answer dst src 0x31#8 [1#8] 0#8 (1#8 :: counters) s
        { sorted s with command.counters :=
            { framesAccepted := 0, replaysSkipped := 0, duplicates := 0, cards := 0, wastes := 0, superseded := 0,
              lostFrames := 0, unconfirmed := 0, strays := 0, jamLost := 0, checkFails := 0, forwardOverflows := 0,
              droppedCommands := 0, badScanLines := 0, ignoredInIdle := 0 } })) ∧
    exec (.readEvents dst src []) s =
      .next (arbitrated (answer dst src 0x32#8 [] 0#8
        (be24 s.command.latched.toNat ++ be24 s.command.mask.toNat ++ [if s.command.arming then 1#8 else 0#8]) s
        (sorted s))) ∧
    exec (.identify dst src []) s =
      .next (arbitrated (answer dst src 0x3F#8 [] 0#8
        [0x0B#8, 0x7A#8, 0x0C#8, 0x24#8, 1#8, BitVec.ofNat 8 s.line.strap.toNat,
         (match s.line.position with | some p => BitVec.ofNat 8 p | none => 255#8),
         if s.line.mode = .convert then 2#8 else 1#8] s (sorted s)))

/-- The 146 bytes of the READ_STATUS reply hold, at each offset of the layout, the value of its item in as many bytes, high
byte first; `statusTable` writes out each item's value with its code and its number of releasable slots (R90, R185, R201,
R208, R209). -/
def Obligations.StatusLayout : Prop :=
  ∀ s : State, (statusData s).length = 146 ∧
    ∀ offset size value, (offset, size, value) ∈ statusTable s →
      readBe (((statusData s).drop offset).take size) = value % 256 ^ size

/-- CLEAR_EVENTS takes the named events out of the latched set; SET_MASK replaces the mask set; ARM_NOTICE sets arming ON; the
last two then queue a NOTICE without a cause, ahead of their REPLY, and disarm, exactly when the station is armed, an unmasked
event is latched and there is room beside the REPLY's place (R190, R191, R193, R194, R208). Then the arbiter chooses
(`arbitrated`, by the model's choices of notes/assumptions/10.md and 27.md). -/
def Obligations.EventCommandsTaken : Prop :=
  ∀ (s : State) (dst src : Byte), delivered s dst src →
    let others := (s.line.control.filter (fun c => !c.halt)).length
    let noticed (latched mask : EventSet) (t : State) : State :=
      { t with
        command.arming := false
        line.control := s.line.control ++
          [{ halt := false
             record :=
               { kind := 0x42#8, dst := 0#8
                 src := (match s.line.position with | some p => BitVec.ofNat 8 p | none => 255#8)
                 payload := be24 (latched &&& ~~~mask).toNat ++ [255#8] } }] }
    (∀ a b c : Byte,
      exec (.clearEvents dst src [a, b, c]) s =
        let after := s.command.latched &&& ~~~(a ++ b ++ c : BitVec 24)
        .next (arbitrated (answer dst src 0x33#8 [a, b, c] 0#8 (be24 s.command.latched.toNat ++ be24 after.toNat) s
          { sorted s with command.latched := after }))) ∧
    (∀ a b c : Byte,
      exec (.setMask dst src [a, b, c]) s =
        let mask : EventSet := a ++ b ++ c
        let t := { sorted s with command.mask := mask }
        if s.command.arming = true ∧ s.command.latched &&& ~~~mask ≠ 0#24 ∧ others < 6 then
          .next (arbitrated (answer dst src 0x34#8 [a, b, c] 0#8 [a, b, c, 1#8] s (noticed s.command.latched mask t)))
        else .next (arbitrated (answer dst src 0x34#8 [a, b, c] 0#8 [a, b, c, 0#8] s t))) ∧
    exec (.armNotice dst src []) s =
      if s.command.latched &&& ~~~s.command.mask ≠ 0#24 ∧ others < 6 then
        .next (arbitrated (answer dst src 0x35#8 [] 0#8 [0#8, 1#8] s (noticed s.command.latched s.command.mask (sorted s))))
      else .next (arbitrated (answer dst src 0x35#8 [] 0#8 [1#8, 0#8] s { sorted s with command.arming := true }))

/-- Refusals: a command code outside the table is answered UNKNOWN; an operand of another length than the command's own is
BAD_LENGTH; a load of the right length in CONVERT is MODE; a choice or an option that names nothing is BAD_VALUE. The REPLY,
without data, is the only effect (R134, R170, R171, R176, R197, R206). LIST_APPEND has its own statement, and JOIN gives no
such REPLY. Then the arbiter chooses (`arbitrated`, by the model's choices of notes/assumptions/10.md and 27.md). -/
def Obligations.RefusedCommandsAnswer : Prop :=
  ∀ (c : Instr) (dst src code : Byte) (operand : List Byte) (s : State),
    recordOf c = some ⟨0x40#8, dst, src, code :: operand⟩ → operand.length ≤ 319 → delivered s dst src →
    let refused (status : Byte) : Prop :=
      exec c s = .next (arbitrated (answer dst src code operand status [] s (sorted s)))
    (code ∉ ([0x01#8, 0x02#8, 0x03#8, 0x04#8, 0x10#8, 0x11#8, 0x12#8, 0x13#8, 0x20#8, 0x21#8, 0x22#8, 0x28#8, 0x29#8,
        0x30#8, 0x31#8, 0x32#8, 0x33#8, 0x34#8, 0x35#8, 0x3F#8] : List Byte) → refused 8#8) ∧
    (∀ n, (code, n) ∈ ([(0x02#8, 0), (0x03#8, 1), (0x04#8, 0), (0x10#8, 130), (0x11#8, 36), (0x12#8, 128), (0x21#8, 0),
        (0x22#8, 0), (0x28#8, 0), (0x29#8, 1), (0x30#8, 0), (0x31#8, 1), (0x32#8, 0), (0x33#8, 3), (0x34#8, 3),
        (0x35#8, 0), (0x3F#8, 0)] : List (Byte × Nat)) → operand.length ≠ n → refused 1#8) ∧
    (code = 0x13#8 → (operand = [] ∨ 8 < (operand.headD 0#8).toNat ∨
        operand.length ≠ 1 + 4 * (operand.headD 0#8).toNat) → refused 1#8) ∧
    (s.line.mode = .convert →
      (code, operand.length) ∈ ([(0x10#8, 130), (0x11#8, 36), (0x12#8, 128)] : List (Byte × Nat)) → refused 5#8) ∧
    (s.line.mode = .convert → code = 0x13#8 → operand ≠ [] → (operand.headD 0#8).toNat ≤ 8 →
      operand.length = 1 + 4 * (operand.headD 0#8).toNat → refused 5#8) ∧
    (∀ b, operand = [b] → (code = 0x29#8 ∧ b ≠ 1#8 ∧ b ≠ 2#8 ∨ code = 0x31#8 ∧ b ≠ 0#8 ∧ b ≠ 1#8) → refused 2#8)

/-! Film traffic (chapters 1 and 2). `converting s src` says that a film record with this source is sorted in CONVERT; a record
addressed to CONVERTER, 66, is then consumed. -/

/-- REEL and REEL_END. First the reel ends (`endOfReel`): the frame in assembly closes with an estimated pitch and is handed
over, through the acquisition rules in ACQUIRE; what is left in the buffer goes out as LEADER frames; the open drawing closes
and release runs. After a REEL: the new reel's parameters in range, frame counter and close count 0, pitch checking ON, last
mark and resume point at the counter at load, ACQUIRE. After a REEL_END outside IDLE: IDLE, with no more of the tracker
changed. In both no drawing is open, the flush timer stops, LIST is clear, LOST is cleared when the tracker was LOST, and what
film traffic leaves alone is as it was (R5 to R7, R19, R24, R27, R94). That LIST is reported at the end is the model's choice
(notes/assumptions/8.md), and so is what a loss does in the hand-over that ends acquisition (notes/assumptions/11.md). Then
the arbiter chooses (`arbitrated`, by the model's choices of notes/assumptions/10.md and 27.md). -/
def Obligations.ReelAndReelEndTaken : Prop :=
  ∀ (s : State) (src : Byte), converting s src →
    let settled (t : State) : State :=
      requestHalt .list false
        { (if s.tracker.state = .lost then requestHalt .lost false t else t) with matching.flushTimer := none }
    (∀ (number : BitVec 16) (polarity format pitch : Byte) (counter : BitVec 24),
      let t := settled { endOfReel (sorted s) with
        tracker :=
          { state := .acquire
            reel := some
              { number := min number.toNat 9999
                polarity := if polarity = 1#8 then .positive else .negative
                format := if format = 1#8 then .w12 else if format = 2#8 then .w8p else .w16
                linePitch := max 1 (min pitch.toNat 20)
                counterAtLoad := counter.toNat }
            pitchChecking := true, lastMark := some counter.toNat, nextNew := counter.toNat, frameCounter := 0
            assembly := none, buffer := [], closeCount := 0 } }
      exec (.reel 66#8 src number polarity format pitch counter) s = .next (arbitrated t) ∧
      t.matching.drawing = none ∧ t.matching.flushTimer = none ∧ t.output.halt.list = false ∧
      (s.tracker.state = .lost → t.output.halt.lost = false) ∧
      filmKeeps (sorted s) t) ∧
    (s.tracker.state ≠ .idle →
      let t := settled { endOfReel (sorted s) with tracker.state := .idle }
      exec (.reelEnd 66#8 src) s = .next (arbitrated t) ∧
      t.tracker.state = .idle ∧ t.tracker.assembly = none ∧ t.tracker.buffer = [] ∧
      t.tracker.reel = s.tracker.reel ∧ t.tracker.lastMark = s.tracker.lastMark ∧
      t.matching.drawing = none ∧ t.matching.flushTimer = none ∧ t.output.halt.list = false ∧
      (s.tracker.state = .lost → t.output.halt.lost = false) ∧
      filmKeeps (sorted s) t)

/-- Film traffic that is ignored: MARK, SCAN and REEL_END in IDLE, counted with NO_REEL; MARK and SCAN in FULL; a duplicate
MARK, counted; a SCAN with no frame in assembly. Nothing else changes but the flush timer, which MARK and SCAN restart (R4,
R8, R13, R15, R94). The premises haltLaw and trackerLaw are invariants of their own. Then the arbiter chooses (`arbitrated`,
by the model's choices of notes/assumptions/10.md and 27.md). -/
def Obligations.IgnoredFilmTraffic : Prop :=
  ∀ (s : State) (src cls : Byte) (counter : BitVec 24) (payload : List Byte),
    converting s src → payload.length ≤ 320 → haltLaw s → trackerLaw s →
    (s.tracker.state = .idle →
      let t := occur .noReel { sorted s with command.counters.ignoredInIdle := saturate s.command.counters.ignoredInIdle }
      exec (.mark 66#8 src cls counter) s = .next (arbitrated { t with matching.flushTimer := none }) ∧
      exec (.scan 66#8 src payload) s = .next (arbitrated { t with matching.flushTimer := none }) ∧
      exec (.reelEnd 66#8 src) s = .next (arbitrated t)) ∧
    (s.tracker.state = .full →
      exec (.mark 66#8 src cls counter) s = .next (arbitrated (restarted (sorted s))) ∧
      exec (.scan 66#8 src payload) s = .next (arbitrated (restarted (sorted s)))) ∧
    (s.tracker.state ≠ .idle → s.tracker.state ≠ .full →
      (s.tracker.lastMark = some counter.toNat →
        exec (.mark 66#8 src cls counter) s = .next (arbitrated (restarted { sorted s with
          command.counters.duplicates := saturate s.command.counters.duplicates }))) ∧
      (s.tracker.assembly = none → exec (.scan 66#8 src payload) s = .next (arbitrated (restarted (sorted s)))))

/-- A MARK beyond the last one in ACQUIRE or TRACKING with no frame in assembly starts one: its class and counter, no lines,
empty accumulators; the last mark counter becomes its counter, and the flush timer restarts (R8, R9, R43, R94, R201). Then the
arbiter chooses (`arbitrated`, by the model's choices of notes/assumptions/10.md and 27.md). -/
def Obligations.MarkStartsFrame : Prop :=
  ∀ (s : State) (src cls : Byte) (counter : BitVec 24) (last : Nat),
    converting s src → haltLaw s → (s.tracker.state = .acquire ∨ s.tracker.state = .tracking) →
    s.tracker.assembly = none → s.tracker.lastMark = some last → last < counter.toNat →
    exec (.mark 66#8 src cls counter) s =
      .next (arbitrated (restarted { sorted s with
        density.acc := { n := 0, sum := 0, dmin := none, dmax := none, overflow := false }
        tracker.lastMark := some counter.toNat
        tracker.assembly := some
          { mark := if cls = 0#8 then .doc else if cls = 1#8 then .sheet else if cls = 2#8 then .retake
              else if cls = 3#8 then .target else .unknown
            counter := counter.toNat, lines := 0, lineOverflow := false } }))

/-- What a closing frame becomes: the next number, the pitch from the counters or the estimate lines times L, the pitch class by
the first row that holds with pitch checking ON and UNCHECKED with it OFF, SUSPECT when a pitch from counters differs from
lines times L by more than track_tol, and the density result of the accumulators; its closing numbers it, empties the
accumulators, records the result, and latches the events of its class and of SUSPECT (R16 to R20, R44, R47). -/
def Obligations.ClosedFrameItems : Prop :=
  ∀ (p : PitchSource) (a : Assembly) (r : ReelParams) (s : State), s.tracker.reel = some r →
    let f := closedFrame p a s
    let v := s.command.settings
    let length := a.lines * r.linePitch
    f.reel = r.number ∧ f.number = s.tracker.frameCounter + 1 ∧ f.counter = a.counter ∧ f.mark = a.mark ∧
    f.leader = false ∧ f.result = densityResult v r.polarity s.density.acc ∧
    f.sampleOverflow = (a.lineOverflow || s.density.acc.overflow) ∧
    (f.pitchEstimated = true ↔ p = .estimated) ∧
    (p = .estimated → f.pitch = length ∧ f.suspect = false) ∧
    (∀ c, p = .counters c → f.pitch = c ∧
      (f.suspect = true ↔ s.tracker.pitchChecking = true ∧ (length + v.trackTol < c ∨ c + v.trackTol < length))) ∧
    (s.tracker.pitchChecking = false → f.pitchClass = .unchecked) ∧
    (s.tracker.pitchChecking = true →
      (f.pitch < v.pitchMin → f.pitchClass = .sliver) ∧
      (v.pitchMin ≤ f.pitch → f.pitch ≤ v.pitchMax → f.pitchClass = .normal) ∧
      (v.pitchMin ≤ f.pitch → v.pitchMax < f.pitch → f.pitch ≤ 2 * v.pitchMax → f.pitchClass = .long) ∧
      (v.pitchMin ≤ f.pitch → 2 * v.pitchMax < f.pitch → f.pitchClass = .gap)) ∧
    (afterClose f s).tracker = { s.tracker with frameCounter := f.number, assembly := none } ∧
    (afterClose f s).density =
      { s.density with
        acc := { n := 0, sum := 0, dmin := none, dmax := none, overflow := false }, last := some f.result } ∧
    (afterClose f s).command.latched = s.command.latched |||
      (if f.pitchClass = .sliver then 1#24 <<< 10 else if f.pitchClass = .gap then 1#24 <<< 9 else 0#24) |||
      (if f.suspect then 1#24 <<< 11 else 0#24)

/-- A MARK that closes a frame. In TRACKING, a frame that the matching engine accepts makes the resume point its counter plus
half of pitch_min and the next frame starts; one that it refuses makes the tracker LOST with the resume point half of
pitch_min before the frame (0 at least), its number given back, nothing in assembly, the loss counted and latched, LOST set,
and the matching engine's holdings and what film traffic leaves alone as they were. In ACQUIRE the frame goes through the
acquisition rules (`acquire`), and the next starts unless that ended in LOST. On an exhausted frame counter the frame is
discarded, no next one starts, the buffer goes out as LEADER frames, REEL_FULL latches and the tracker is FULL (`fullReel`).
In each the last mark becomes the mark's counter and the flush timer restarts (R8, R9, R16, R21, R25 to R27, R76, R94). That
LIST is reported at the end is the model's choice (notes/assumptions/8.md), and so is what a loss does in the hand-over that
ends acquisition (notes/assumptions/11.md). Then the arbiter chooses (`arbitrated`, by the model's choices of
notes/assumptions/10.md and 27.md). -/
def Obligations.MarkClosesFrame : Prop :=
  ∀ (s : State) (src cls : Byte) (counter : BitVec 24) (last : Nat) (a : Assembly),
    converting s src → s.tracker.assembly = some a → s.tracker.lastMark = some last → last < counter.toNat →
    let f := closedFrame (.counters (counter.toNat - last)) a s
    let u := afterClose f (sorted s)
    let finished (t : State) : State := reportList (restarted { t with tracker.lastMark := some counter.toNat })
    let started (t : State) : State := { t with
      density.acc := { n := 0, sum := 0, dmin := none, dmax := none, overflow := false }
      tracker.assembly := some
        { mark := if cls = 0#8 then .doc else if cls = 1#8 then .sheet else if cls = 2#8 then .retake
            else if cls = 3#8 then .target else .unknown
          counter := counter.toNat, lines := 0, lineOverflow := false } }
    (s.tracker.state = .tracking → s.tracker.frameCounter < 65535 →
      (∀ v, takeFrame f u = some v →
        exec (.mark 66#8 src cls counter) s =
          .next (arbitrated (finished (started { v with
            tracker.nextNew := a.counter + s.command.settings.pitchMin / 2 })))) ∧
      (takeFrame f u = none →
        let t := finished (handOver .live [f] u)
        exec (.mark 66#8 src cls counter) s = .next (arbitrated t) ∧
        t.tracker = { s.tracker with
          state := .lost, nextNew := a.counter - s.command.settings.pitchMin / 2, assembly := none, buffer := [],
          closeCount := 0, lastMark := some counter.toNat } ∧
        t.density.acc = { n := 0, sum := 0, dmin := none, dmax := none, overflow := false } ∧
        t.density.last = some f.result ∧
        t.matching.flushTimer =
          (if s.matching.drawing ≠ none ∧ s.command.settings.flushTime ≠ 0 then some s.command.settings.flushTime
           else none) ∧
        t.command.latched = u.command.latched ||| (1#24 <<< 8) ∧
        t.command.counters = { s.command.counters with lostFrames := saturate s.command.counters.lostFrames } ∧
        t.output.halt.lost = true ∧ t.output.queue = s.output.queue ∧ filmKeeps (sorted s) t ∧
        t.matching.hold = s.matching.hold ∧ t.matching.drawing = s.matching.drawing ∧
        t.matching.recent = s.matching.recent ∧ t.matching.serial = s.matching.serial ∧ t.list = s.list)) ∧
    (s.tracker.state = .acquire → s.tracker.frameCounter < 65535 →
      exec (.mark 66#8 src cls counter) s =
        let t := acquire .live f u
        .next (arbitrated (finished (if t.tracker.state = .lost then t else started t)))) ∧
    (s.tracker.state = .acquire ∨ s.tracker.state = .tracking → 65535 ≤ s.tracker.frameCounter →
      let t := finished (fullReel .exhausted (sorted s))
      exec (.mark 66#8 src cls counter) s = .next (arbitrated t) ∧ t.tracker.state = .full ∧ t.tracker.assembly = none ∧
      t.command.latched.getLsbD 12 = true)

/-- Marks of film that is wound back. In TRACKING a falling counter abandons the frame in assembly and leads to REWOUND; in
ACQUIRE it does so too, and the buffer goes out as LEADER frames, a loss among them changing the resume point but not the
state. In REWOUND a falling counter is a further reversal, a rising one below the resume point a replay that is counted, and
one from it on starts a frame in TRACKING. In LOST a falling counter leads to REWOUND and clears LOST; any other mark is
skipped. In each the last mark becomes the counter and the flush timer restarts (R8, R10 to R12, R24, R26, R27, R43, R94).
That LIST is reported at the end is the model's choice (notes/assumptions/8.md). Then the arbiter chooses (`arbitrated`, by
the model's choices of notes/assumptions/10.md and 27.md). -/
def Obligations.RewindMarksTaken : Prop :=
  ∀ (s : State) (src cls : Byte) (counter : BitVec 24) (last : Nat),
    converting s src → haltLaw s → trackerLaw s → s.tracker.lastMark = some last → counter.toNat ≠ last →
    let marked (t : State) : State := restarted { t with tracker.lastMark := some counter.toNat }
    (s.tracker.state = .tracking → counter.toNat < last →
      exec (.mark 66#8 src cls counter) s =
        .next (arbitrated (marked (occur .reversal { sorted s with
          density.acc := { n := 0, sum := 0, dmin := none, dmax := none, overflow := false }
          tracker.assembly := none
          tracker.state := .rewound })))) ∧
    (s.tracker.state = .acquire → counter.toNat < last →
      exec (.mark 66#8 src cls counter) s =
        let t := occur .reversal (handOver .reversal (leaders s.tracker.buffer) { sorted s with
          density.acc := { n := 0, sum := 0, dmin := none, dmax := none, overflow := false }
          tracker.assembly := none
          tracker.buffer := [] })
        .next (arbitrated (reportList (marked { t with tracker.state := .rewound })))) ∧
    (s.tracker.state = .rewound →
      exec (.mark 66#8 src cls counter) s =
        .next (arbitrated (marked (
          if counter.toNat < last then occur .reversal (sorted s)
          else if counter.toNat < s.tracker.nextNew then
            { sorted s with command.counters.replaysSkipped := saturate s.command.counters.replaysSkipped }
          else
            { sorted s with
              density.acc := { n := 0, sum := 0, dmin := none, dmax := none, overflow := false }
              tracker.state := .tracking
              tracker.assembly := some
                { mark := if cls = 0#8 then .doc else if cls = 1#8 then .sheet else if cls = 2#8 then .retake
                    else if cls = 3#8 then .target else .unknown
                  counter := counter.toNat, lines := 0, lineOverflow := false } })))) ∧
    (s.tracker.state = .lost →
      exec (.mark 66#8 src cls counter) s =
        .next (arbitrated (marked (
          if counter.toNat < last then
            requestHalt .lost false (occur .reversal { sorted s with tracker.state := .rewound })
          else sorted s))))

/-- A SCAN while a frame is in assembly: a bad one only advances its counter; below 256 lines it is one more line and its
samples are taken one after another; at 256 it only sets the line overflow flag with SAMPLE_OVERFLOW. The flush timer restarts
(R14, R31, R94, R202). Then the arbiter chooses (`arbitrated`, by the model's choices of notes/assumptions/10.md and 27.md). -/
def Obligations.ScanTaken : Prop :=
  ∀ (s : State) (src : Byte) (payload : List Byte) (a : Assembly) (r : ReelParams),
    converting s src → payload.length ≤ 320 → s.tracker.state ≠ .idle → s.tracker.state ≠ .full →
    s.tracker.assembly = some a → s.tracker.reel = some r →
    (readScan r.format payload = none →
      exec (.scan 66#8 src payload) s = .next (arbitrated (restarted { sorted s with
        command.counters.badScanLines := saturate s.command.counters.badScanLines }))) ∧
    ∀ xs, readScan r.format payload = some xs →
      (a.lines < 256 →
        exec (.scan 66#8 src payload) s = .next (arbitrated (restarted (xs.foldl (fun t x => takeSample x t)
          { sorted s with tracker.assembly := some { a with lines := a.lines + 1 } })))) ∧
      (256 ≤ a.lines →
        exec (.scan 66#8 src payload) s = .next (arbitrated (restarted (occur .sampleOverflow
          { sorted s with tracker.assembly := some { a with lineOverflow := true } }))))

/-- How a SCAN payload is read. Of 8 to 64 samples behind their count: in W16 each word is a sample; in W12 its low 12 bits
times 16 are, and bit 15 marks it invalid; in W8P each byte times 256 is, two to a word, and the odd last byte is no sample. A
payload of another count or length is a bad scan line (R14, R32, R34, R202). -/
def Obligations.ScanPayloadRead : Prop :=
  (∀ words : List (BitVec 16), 8 ≤ words.length → words.length ≤ 64 →
    readScan .w16 (BitVec.ofNat 8 words.length :: words.flatMap (fun w => be16 w.toNat)) =
      some (words.map (fun w => { value := w.toNat, invalid := false })) ∧
    readScan .w12 (BitVec.ofNat 8 words.length :: words.flatMap (fun w => be16 w.toNat)) =
      some (words.map (fun w => { value := (w &&& 0x0FFF#16).toNat * 16, invalid := w.msb }))) ∧
  (∀ (bytes : List Byte) (last : Byte), 8 ≤ bytes.length → bytes.length ≤ 64 →
    readScan .w8p (BitVec.ofNat 8 bytes.length :: (bytes ++ if bytes.length % 2 = 1 then [last] else [])) =
      some (bytes.map (fun b => { value := b.toNat * 256, invalid := false }))) ∧
  ∀ (format : SampleFormat) (payload : List Byte),
    (readScan format payload = none ↔
      payload = [] ∨ (payload.headD 0#8).toNat < 8 ∨ 64 < (payload.headD 0#8).toNat ∨
      payload.length ≠ 1 + 2 * (match format with
        | .w8p => ((payload.headD 0#8).toNat + 1) / 2
        | _ => (payload.headD 0#8).toNat))

/-- One sample: an invalid one is left out while count_invalid is OFF; a counted one below the cap advances n and adds its
density to the sum, Dmin and Dmax; at the cap of 8192 it only sets the overflow flag with SAMPLE_OVERFLOW (R33, R42). The
density lies between the two table points around it, and so in 0..400 (R35, R40). -/
def Obligations.SampleTaken : Prop :=
  (∀ (x : Sample) (s : State),
    let d := s.density.table.getD (x.value / 1024) 0 -
      ((s.density.table.getD (x.value / 1024) 0 - s.density.table.getD (x.value / 1024 + 1) 0) * (x.value % 1024) +
        512) / 1024
    takeSample x s =
      if x.invalid = true ∧ s.command.settings.countInvalid = false then s
      else if s.density.acc.n < 8192 then
        { s with density.acc :=
            { n := s.density.acc.n + 1, sum := s.density.acc.sum + d
              dmin := some (min (s.density.acc.dmin.getD d) d), dmax := some (max (s.density.acc.dmax.getD d) d)
              overflow := s.density.acc.overflow } }
      else occur .sampleOverflow { s with density.acc.overflow := true }) ∧
  ∀ (s : State) (value : Nat), tableLaw s → value < 65536 →
    s.density.table.getD (value / 1024 + 1) 0 ≤ sampleDensity s.density.table value ∧
    sampleDensity s.density.table value ≤ s.density.table.getD (value / 1024) 0 ∧
    sampleDensity s.density.table value ≤ 400

/-- The frame result: UNMEASURED with zeros below n_min; else the extremes, the mean rounded half up, the contrast by the
polarity and the class by the first row that holds. For accumulators that keep their law the values lie in 0 <= Dmin <= Dmean
<= Dmax <= 400 and the contrast in 0..400 (R44 to R46). The premise accumulatorLaw is an invariant of its own. -/
def Obligations.FrameResult : Prop :=
  ∀ (v : Settings) (p : Polarity) (a : Accumulators), accumulatorLaw a → 1 ≤ v.nMin →
    let r := densityResult v p a
    r.n = a.n ∧ r.overflow = a.overflow ∧
    (a.n < v.nMin → r.cls = .unmeasured ∧ r.dmin = 0 ∧ r.dmean = 0 ∧ r.dmax = 0 ∧ r.contrast = 0) ∧
    (v.nMin ≤ a.n →
      a.dmin = some r.dmin ∧ a.dmax = some r.dmax ∧ r.dmean = (a.sum + a.n / 2) / a.n ∧
      r.contrast = (match p with | .negative => r.dmean - r.dmin | .positive => r.dmax - r.dmean) ∧
      r.dmin ≤ r.dmean ∧ r.dmean ≤ r.dmax ∧ r.dmax ≤ 400 ∧ r.contrast ≤ 400 ∧
      r.cls =
        (if r.contrast < v.cBlank then .blank else if r.dmean < v.dbLow then .thin
         else if v.dbHigh < r.dmean then .dense else if r.contrast < v.cMin then .flat else .good))

/-- Acquisition and hand-over. Frames go to the matching engine one by one: one accepted makes the resume point its counter
plus half of pitch_min, and the next follows; one refused ends the hand-over and, live, makes the tracker LOST, at a change of
reel only gives its number back, and on a reversal or an exhausted frame counter does all but the LOST state; each counted and
latched (R25, R26). A frame that closes in ACQUIRE: a third normal one hands three over unflagged, in TRACKING; else the 64th
fails acquisition with ACQUIRE_FAIL, pitch checking OFF, and hands over unflagged, in TRACKING; else a normal one only joins
the buffer; else the run is broken and hands over as LEADER frames, in ACQUIRE. What film traffic leaves alone stays (R21 to
R23). That a loss in a hand-over that ends acquisition leads to LOST is the model's choice (notes/assumptions/11.md). -/
def Obligations.AcquisitionDecides : Prop :=
  (∀ (o : Occasion) (s : State), handOver o [] s = s) ∧
  (∀ (o : Occasion) (f : ClosedFrame) (fs : List ClosedFrame) (s : State),
    let noted (t : State) : State :=
      { occur .frameLost t with command.counters.lostFrames := saturate t.command.counters.lostFrames }
    let given : State := noted { s with
      density.acc := { n := 0, sum := 0, dmin := none, dmax := none, overflow := false }
      tracker := { s.tracker with
        nextNew := f.counter - s.command.settings.pitchMin / 2, frameCounter := f.number - 1
        assembly := none, buffer := [], closeCount := 0 } }
    (∀ t, takeFrame f s = some t →
      handOver o (f :: fs) s =
        handOver o fs { t with tracker.nextNew := f.counter + s.command.settings.pitchMin / 2 }) ∧
    (takeFrame f s = none →
      handOver o (f :: fs) s = match o with
        | .live => requestHalt .lost true { given with tracker.state := .lost }
        | .reelChange => noted { s with tracker.frameCounter := f.number - 1, tracker.buffer := [] }
        | .reversal => given
        | .exhausted => given)) ∧
  ∀ (o : Occasion) (f : ClosedFrame) (s : State), s.tracker.state = .acquire →
    let t := acquire o f s
    let normal := f.pitchClass = .normal ∧ f.suspect = false
    let buffer := s.tracker.buffer
    let count := s.tracker.closeCount + 1
    let counted : State := { s with tracker.closeCount := count }
    filmKeeps s t ∧
    (normal ∧ 2 ≤ buffer.length →
      t = handOver o (buffer ++ [f]) { counted with tracker.buffer := [], tracker.state := .tracking }) ∧
    (¬(normal ∧ 2 ≤ buffer.length) → 64 ≤ count →
      t = handOver o (buffer ++ [f]) { occur .acquireFail counted with
        tracker.buffer := [], tracker.state := .tracking, tracker.pitchChecking := false }) ∧
    (normal → buffer.length < 2 → count < 64 → t = { counted with tracker.buffer := buffer ++ [f] }) ∧
    (¬normal → count < 64 → t = handOver o (leaders (buffer ++ [f])) { counted with tracker.buffer := [] }) ∧
    (t.command.counters.lostFrames = s.command.counters.lostFrames → s.command.counters.lostFrames < 65535 →
      (normal ∧ 2 ≤ buffer.length →
        t.tracker.state = .tracking ∧ t.tracker.buffer = [] ∧ t.tracker.pitchChecking = s.tracker.pitchChecking) ∧
      (¬(normal ∧ 2 ≤ buffer.length) → 64 ≤ count →
        t.tracker.state = .tracking ∧ t.tracker.buffer = [] ∧ t.tracker.pitchChecking = false ∧
        t.command.latched.getLsbD 6 = true) ∧
      (¬normal → count < 64 → t.tracker.state = .acquire ∧ t.tracker.buffer = [] ∧ t.tracker.closeCount = count))

/-- FLUSH_TIMER_EXPIRY: with the timer running, the frame in assembly closes with an estimated pitch in ACQUIRE or TRACKING
and is handed over or goes through the acquisition rules, the drawing closes, release runs and the timer stops; LIST is clear,
and the last mark, the reel and what film traffic leaves alone stay. With the timer stopped nothing happens (R19, R94, R95).
That it acts whatever time remains and that LIST is reported at the end are the model's choices (notes/assumptions/2.md,
8.md). Then the arbiter chooses (`arbitrated`, by the model's choices of notes/assumptions/10.md and 27.md). -/
def Obligations.FlushExpiryTaken : Prop :=
  (∀ s : State, s.matching.flushTimer = none → exec .flushTimerExpiry s = .next (arbitrated s)) ∧
  ∀ s : State, s.matching.flushTimer ≠ none → trackerLaw s →
    let closed := if s.tracker.state = .acquire ∨ s.tracker.state = .tracking then closeFrame .live .estimated s else s
    let t := requestHalt .list false { release (endDrawing closed) with matching.flushTimer := none }
    exec .flushTimerExpiry s = .next (arbitrated t) ∧ t.matching.flushTimer = none ∧ t.matching.drawing = none ∧
    t.tracker.assembly = none ∧ releaseHead t = none ∧ t.output.halt.list = false ∧
    t.tracker.lastMark = s.tracker.lastMark ∧ t.tracker.reel = s.tracker.reel ∧ filmKeeps s t

/-! Matching engine (chapter 4). `takeFrame` answers none for a frame refused as lost, and else the state after the frame;
`acceptFrame` is what follows once there is room. -/

/-- Slot room: a frame is refused exactly when its number does not pass the tail slot's, or when the hold queue holds 32 slots
and the output queue 24 or more; a frame that finds 32 slots and room in the output queue has the head released early,
rendered with EARLY, an UNBOUND one as an UNLISTED exception, and release run, before it is accepted (R75, R76, R93). A WASTE
head, which no run releases early, leaves as it is: the model's choice (notes/assumptions/23.md). -/
def Obligations.FrameRoom : Prop :=
  ∀ (f : ClosedFrame) (s : State),
    (takeFrame f s = none ↔
      (∃ tail, s.matching.hold.getLast? = some tail ∧ f.number ≤ tail.number) ∨
      (32 ≤ s.matching.hold.length ∧ 24 ≤ s.output.queue.length)) ∧
    (takeFrame f s ≠ none → s.matching.hold.length < 32 → takeFrame f s = some (acceptFrame f s)) ∧
    ∀ slot rest, takeFrame f s ≠ none → 32 ≤ s.matching.hold.length → s.matching.hold = slot :: rest →
      takeFrame f s =
        let early (g : SlotFlags) : SlotFlags := { g with early := true }
        let t := occur .earlyRelease s
        some (acceptFrame f (release (match slot.body with
          | .waste _ => emitSlot slot { t with matching.hold := rest }
          | .card (.unbound _ _) g =>
            emitSlot { slot with body := .card (.except .unlisted) (early g) }
              { occur .unlistedFrame t with matching.hold := rest }
          | .card b g => emitSlot { slot with body := .card b (early g) } { t with matching.hold := rest })))

/-- A frame that carries LEADER, is a SLIVER, a TARGET or BLANK takes a WASTE slot at the tail with the first of these reasons;
frames accepted advances and release runs; no drawing, entry or serial changes before that release (R74, R77). -/
def Obligations.WasteFrameTaken : Prop :=
  ∀ (f : ClosedFrame) (s : State),
    (f.leader = true ∨ f.pitchClass = .sliver ∨ f.mark = .target ∨ f.result.cls = .blank) →
    acceptFrame f s = release { s with
      command.counters.framesAccepted := saturate s.command.counters.framesAccepted
      matching.hold := s.matching.hold ++
        [{ reel := f.reel, number := f.number, counter := f.counter, pitch := f.pitch
           body := .waste (if f.leader then .leader else if f.pitchClass = .sliver then .sliver
             else if f.mark = .target then .target else .blank) }] }

/-- A frame that is not waste and starts a document: a DOC mark, a SHEET mark with no drawing open, or an UNKNOWN mark with no
drawing open with sheets remaining; the last two with MARK_INFERRED. The open drawing closes; the head entry, if any, leaves
the list and binds under the next serial, with the LIST_LOW test; else the drawing opens unbound with LIST_EMPTY. The frame
takes sheet 1 of it at the tail of the hold queue, and release runs (R59, R63, R71, R74, R80 to R84). That the closed
drawing's slots are released only then is the model's choice (notes/assumptions/9.md). -/
def Obligations.DocumentStartTaken : Prop :=
  ∀ (f : ClosedFrame) (s : State),
    f.leader = false → f.pitchClass ≠ .sliver → f.mark ≠ .target → f.result.cls ≠ .blank →
    (f.mark = .doc ∨ (f.mark = .sheet ∧ s.matching.drawing = none) ∨
      (f.mark = .unknown ∧ ∀ d, s.matching.drawing = some d →
        (match d.entry with | some e => e.sheetCount | none => 32) ≤ d.sheetsSeen)) →
    let u := closeDrawing s
    let serial := (u.matching.serial + 1) % 256
    let flags := addFrameFlags f { markInferred := decide (f.mark ≠ .doc) }
    let joined (b : Binding) (t : State) : State := release { t with
      command.counters.framesAccepted := saturate t.command.counters.framesAccepted
      matching.hold := t.matching.hold ++
        [{ reel := f.reel, number := f.number, counter := f.counter, pitch := f.pitch, body := .card b flags }] }
    (∀ e rest, u.list.entries = e :: rest →
      acceptFrame f s =
        let t := { u with
          list.entries := rest
          matching.serial := serial
          matching.drawing := some { serial := serial, entry := some e, sheetsSeen := 1 }
          matching.recent := none }
        joined (.bound e serial 1)
          (if rest.length ≤ u.command.settings.listLow then occur .listLow t else t)) ∧
    (u.list.entries = [] →
      acceptFrame f s = joined (.unbound serial 1) (occur .listEmpty { u with
        matching.serial := serial
        matching.drawing := some { serial := serial, entry := none, sheetsSeen := 1 }
        matching.recent := none }))

/-- A SHEET frame that is not waste with a drawing open, or an UNKNOWN one, read as SHEET, while sheets remain: the next sheet
number of the drawing with its binding; with no sheets remaining an EXTRA exception, and the drawing as it was (R71, R80, R83,
R84). -/
def Obligations.FurtherSheetTaken : Prop :=
  ∀ (f : ClosedFrame) (s : State) (d : Drawing),
    f.leader = false → f.pitchClass ≠ .sliver → f.mark ≠ .target → f.result.cls ≠ .blank →
    s.matching.drawing = some d →
    let limit := match d.entry with | some e => e.sheetCount | none => 32
    let joined (b : Binding) (g : SlotFlags) (t : State) : State := release { t with
      command.counters.framesAccepted := saturate t.command.counters.framesAccepted
      matching.hold := t.matching.hold ++
        [{ reel := f.reel, number := f.number, counter := f.counter, pitch := f.pitch
           body := .card b (addFrameFlags f g) }] }
    (f.mark = .sheet ∨ f.mark = .unknown → d.sheetsSeen < limit →
      acceptFrame f s =
        joined
          (match d.entry with
            | some e => .bound e d.serial (d.sheetsSeen + 1)
            | none => .unbound d.serial (d.sheetsSeen + 1))
          { markInferred := decide (f.mark = .unknown) }
          { s with matching.drawing := some { d with sheetsSeen := d.sheetsSeen + 1 } }) ∧
    (f.mark = .sheet → limit ≤ d.sheetsSeen → acceptFrame f s = joined (.except .extra) {} s)

/-- A RETAKE frame that is not waste. Its target is the newest held CARD slot of the open drawing, or of the recent one when
none is open: it is superseded in place and its binding and SHORT go to the new slot with RETAKE. Without a target: a late
retake of that drawing, an UNLISTED exception when the recent one is unbound or there is none (R78, R79, R84). -/
def Obligations.RetakeTaken : Prop :=
  ∀ (f : ClosedFrame) (s : State),
    f.leader = false → f.pitchClass ≠ .sliver → f.mark = .retake → f.result.cls ≠ .blank →
    let joined (b : Binding) (g : SlotFlags) (t : State) : State := release { t with
      command.counters.framesAccepted := saturate t.command.counters.framesAccepted
      matching.hold := t.matching.hold ++
        [{ reel := f.reel, number := f.number, counter := f.counter, pitch := f.pitch
           body := .card b (addFrameFlags f g) }] }
    let looked := s.matching.drawing.orElse (fun _ => s.matching.recent)
    (∀ d before after slot b g, looked = some d →
      s.matching.hold = before ++ slot :: after → slot.body = .card b g → isCardOf d.serial slot = true →
      (∀ x ∈ after, isCardOf d.serial x = false) →
      acceptFrame f s = joined b { retake := true, short := g.short } { s with
        command.counters.superseded := saturate s.command.counters.superseded
        matching.hold := before ++ { slot with body := .waste .superseded } :: after }) ∧
    ((∀ d, looked = some d → ∀ x ∈ s.matching.hold, isCardOf d.serial x = false) →
      (∀ d, s.matching.drawing = some d →
        acceptFrame f s = joined
          (match d.entry with
            | some e => .bound e d.serial d.sheetsSeen
            | none => .unbound d.serial d.sheetsSeen)
          { lateRetake := true } (occur .lateRetake s)) ∧
      (∀ d e, s.matching.drawing = none → s.matching.recent = some d → d.entry = some e →
        acceptFrame f s = joined (.bound e d.serial d.sheetsSeen) { lateRetake := true } (occur .lateRetake s)) ∧
      (∀ d, s.matching.drawing = none → s.matching.recent = some d → d.entry = none →
        acceptFrame f s = joined (.except .unlisted) { lateRetake := true }
          (occur .unlistedFrame (occur .lateRetake s))) ∧
      (s.matching.drawing = none → s.matching.recent = none →
        acceptFrame f s = joined (.except .unlisted) {} (occur .unlistedFrame s)))

/-- A drawing that closes becomes the recent drawing and none is open. Bound and short: its newest held CARD slot gets SHORT and
MISSING_SHEET latches, slot or no slot; bound and complete: nothing more; unbound: its held CARD slots become UNLISTED
exceptions with their flags, and UNLISTED_FRAME latches (R72, R86, R87). -/
def Obligations.DrawingCloses : Prop :=
  ∀ (s : State) (d : Drawing), s.matching.drawing = some d →
    let closed (t : State) : State := { t with matching.drawing := none, matching.recent := some d }
    (∀ e, d.entry = some e → e.sheetCount ≤ d.sheetsSeen → closeDrawing s = closed s) ∧
    (∀ e, d.entry = some e → d.sheetsSeen < e.sheetCount →
      ((∀ x ∈ s.matching.hold, isCardOf d.serial x = false) →
        closeDrawing s = closed (occur .missingSheet s)) ∧
      ∀ before after slot b g, s.matching.hold = before ++ slot :: after → slot.body = .card b g →
        isCardOf d.serial slot = true → (∀ x ∈ after, isCardOf d.serial x = false) →
        closeDrawing s = closed (occur .missingSheet { s with matching.hold :=
          before ++ { slot with body := .card b { g with short := true } } :: after })) ∧
    (d.entry = none →
      let exceptions := s.matching.hold.map (fun x => match x.body with
        | .card _ g => if isCardOf d.serial x then { x with body := .card (.except .unlisted) g } else x
        | .waste _ => x)
      closeDrawing s = closed (occur .unlistedFrame { s with matching.hold := exceptions }))

/-- A CARD slot of a drawing is a BOUND or UNBOUND one with its serial (R69); a slot is releasable when it is a WASTE slot, an
exception, or a CARD slot of a drawing that is not open (R90); the head may leave when it is releasable and the output queue
holds fewer than 24 (R91). Release: while the head is releasable and the output queue holds fewer than 24, it leaves
(`leave`): rendered behind the output queue with the next sequence, counted as a card or a waste, the OUTPUT test at once
after it; then release goes on with the next. So some number n of slots leave from the head, and it ends when the head may not
leave. Everything but the hold queue, the output queue, the sequence counter, the reason OUTPUT with its report, and those two
counters is as it was (R91, R100, R122, R139). -/
def Obligations.ReleaseRunsToItsEnd : Prop :=
  let count (k : Counters) (x : Slot) : Counters := match x.body with
    | .card _ _ => { k with cards := saturate k.cards }
    | .waste _ => { k with wastes := saturate k.wastes }
  let leave (t : State) (x : Slot) : State := outputTest { t with
    matching.hold := t.matching.hold.drop 1
    output.queue := t.output.queue ++ [render t.command.settings t.composer t.output.nextSeq x]
    output.nextSeq := (t.output.nextSeq + 1) % 65536
    command.counters := count t.command.counters x }
  (∀ (serial : Nat) (x : Slot), isCardOf serial x = true ↔
    (∃ e sheet g, x.body = .card (.bound e serial sheet) g) ∨ ∃ sheet g, x.body = .card (.unbound serial sheet) g) ∧
  (∀ (m : MatchingEngine) (x : Slot), isReleasable m x = true ↔
    (∃ reason, x.body = .waste reason) ∨ (∃ cause g, x.body = .card (.except cause) g) ∨ m.drawing = none ∨
    ∃ d serial, m.drawing = some d ∧ serial ≠ d.serial ∧
      ((∃ e sheet g, x.body = .card (.bound e serial sheet) g) ∨ ∃ sheet g, x.body = .card (.unbound serial sheet) g)) ∧
  (∀ s : State, releaseHead s = none ↔
    ∀ x ∈ s.matching.hold.head?, isReleasable s.matching x = false ∨ 24 ≤ s.output.queue.length) ∧
  (∀ s : State, s.matching.hold = [] → release s = s) ∧
  (∀ (s : State) (x : Slot) (rest : List Slot), s.matching.hold = x :: rest →
    release s =
      if isReleasable s.matching x = true ∧ s.output.queue.length < 24 then release (leave s x) else s) ∧
  ∀ s : State, s.output.nextSeq < 65536 → ∃ n, n ≤ s.matching.hold.length ∧
    release s = (s.matching.hold.take n).foldl leave s ∧
    release s = { s with
      matching.hold := s.matching.hold.drop n
      output.queue := s.output.queue ++ (s.matching.hold.take n).zipIdx.map
        (fun p => render s.command.settings s.composer ((s.output.nextSeq + p.2) % 65536) p.1)
      output.nextSeq := (s.output.nextSeq + n) % 65536
      output.halt.output := (release s).output.halt.output
      line.control := (release s).line.control
      command.counters := (s.matching.hold.take n).foldl count s.command.counters } ∧
    releaseHead (release s) = none ∧
    (0 < n → s.output.queue.length + n ≤ 24) ∧
    ∀ x ∈ s.matching.hold.take n, isReleasable s.matching x = true

/-! Card composer (chapter 5). -/

/-- The punch image is the run-length code of the columns: its items stand for exactly the column patterns, every run has at
least one column, every literal is not blank, no two runs stand together, and each pattern's two bytes hold its row set (R115,
R204). -/
def Obligations.PunchImageEncodes : Prop :=
  ∀ columns : List Pattern,
    (punchItems columns).flatMap itemPatterns = columns ∧
    (∀ k, .run k ∈ punchItems columns → 1 ≤ k ∧ k ≤ columns.length) ∧
    (∀ p, .literal p ∈ punchItems columns → p ≠ 0#12) ∧
    (∀ i j k, (punchItems columns)[i]? = some (.run j) → (punchItems columns)[i + 1]? ≠ some (.run k)) ∧
    (∀ p : Pattern, itemBytes (.literal p) =
      [(p.extractLsb' 8 4).setWidth 8, (p.extractLsb' 0 8 : BitVec 8)]) ∧
    ∀ k, k ≤ 80 → itemBytes (.run k) = [0x80#8 ||| BitVec.ofNat 8 k]

/-- A card from its slot to its bytes. The six field texts; a placement writes exactly its columns, its text justified with
spaces or cut to its leftmost characters, over what stood there, from 80 spaces on; the instruction with TEXT_CUT when a
placement cuts; and the bytes of WASTE and CARD, the flags at their bits (R101 to R105, R109 to R111, R203). Every card fits:
with a field map of placements on the card the text has 80 characters, the print line is the text up to its last character
that is no space, and a CARD has 26 to 265 bytes, a WASTE 16 (R116). That an UNBOUND slot, which no run renders, makes an
UNLISTED card is the model's choice (notes/assumptions/21.md). The premise composerLaw is an invariant of its own. -/
def Obligations.CardFitsRecord : Prop :=
  (∀ (reel number : Nat) (b : Binding) (g : SlotFlags),
    let texts := fieldText reel number b g
    let digits (n : Nat) : List Byte := (Nat.toDigits 10 n).map (fun c => BitVec.ofNat 8 c.toNat)
    let digit (n : Nat) : Byte := BitVec.ofNat 8 (0x30 + n % 10)
    texts .drawing = (match b with | .bound e _ _ => e.drawing | _ => []) ∧
    texts .revision = (match b with | .bound e _ _ => e.revision | _ => []) ∧
    texts .title = (match b with | .bound e _ _ => e.title | _ => []) ∧
    texts .note = noteText b g ∧
    (∀ e serial sheet, b = .bound e serial sheet → sheet ≤ 32 → e.sheetCount ≤ 32 →
      texts .sheet = digits sheet ++ [0x2F#8] ++ digits e.sheetCount) ∧
    (∀ serial sheet, b = .unbound serial sheet → sheet ≤ 32 → texts .sheet = digits sheet ++ [0x2F#8, 0x3F#8]) ∧
    (∀ cause, b = .except cause → texts .sheet = []) ∧
    texts .frameRef =
      [digit (reel / 1000), digit (reel / 100), digit (reel / 10), digit reel, 0x2E#8, digit (number / 10000),
        digit (number / 1000), digit (number / 100), digit (number / 10), digit number]) ∧
  (∀ (texts : Field → List Byte) (fields : List Placement) (p : Placement),
    cardText texts [] = List.replicate 80 0x20#8 ∧
    ((∀ q ∈ fields, placementLaw q) → placementLaw p →
      let content := texts p.field
      let pad := if p.justify = .right then p.width - content.length else 0
      ∀ column, 1 ≤ column → column ≤ 80 →
        (cardText texts (fields ++ [p]))[column - 1]? =
          if column < p.first ∨ p.first + p.width ≤ column then (cardText texts fields)[column - 1]?
          else if column - p.first < pad then some 0x20#8
          else some (content.getD (column - p.first - pad) 0x20#8))) ∧
  (∀ (s : State) (seq : Nat) (slot : Slot),
    let i := render s.command.settings s.composer seq slot
    i.seq = seq ∧ i.reel = slot.reel ∧ i.number = slot.number ∧ i.counter = slot.counter ∧ i.pitch = slot.pitch ∧
    i.reissued = false ∧
    (∀ reason, slot.body = .waste reason → i.body = .waste reason) ∧
    ∀ b g, slot.body = .card b g →
      let texts := fieldText slot.reel slot.number b g
      let card := cardText texts s.composer.fieldMap
      i.body = .card (dispositionOf s.command.settings b g)
        (match b with
          | .bound e _ sheet => .bound e.listNumber sheet e.sheetCount
          | .except .extra => .extra
          | _ => .unlisted) g
        (s.composer.fieldMap.any (fun p => decide (p.width < (texts p.field).length)))
        (printLineOf card)
        (punchItems (card.map (fun c => s.composer.punch.getD (c.toNat - 0x20) 0#12)))) ∧
  (∀ (src : Byte) (i : Instruction),
    let cut := be16 i.seq ++ be16 i.reel ++ be16 i.number ++ be32 i.counter ++ be32 i.pitch
    (∀ reason, i.body = .waste reason →
      instructionRecord src i = ⟨0x21#8, 65#8, src, cut ++
        [(match reason with
          | .leader => 0#8 | .sliver => 1#8 | .target => 2#8 | .blank => 3#8 | .superseded => 4#8),
         if i.reissued then 1#8 else 0#8]⟩) ∧
    ∀ disposition binding g textCut line image, i.body = .card disposition binding g textCut line image →
      instructionRecord src i = ⟨0x20#8, 65#8, src, cut ++
        [if disposition = .mount then 0#8 else 1#8] ++
        (match binding with
          | .bound listNumber sheet sheetCount => [0#8] ++ be16 listNumber ++ be8 sheet ++ be8 sheetCount
          | .unlisted => [1#8, 0#8, 0#8, 0#8, 0#8]
          | .extra => [2#8, 0#8, 0#8, 0#8, 0#8]) ++
        be32 (([g.retake, g.lateRetake, g.short, g.early, g.suspect, g.oversize, g.markInferred, g.pitchEstimated,
          g.sampleOverflow, g.poor, textCut, i.reissued] : List Bool).zipIdx.map
            (fun p => if p.1 then 2 ^ p.2 else 0)).sum ++
        be8 line.length ++ line ++ image.flatMap itemBytes⟩) ∧
  ∀ (s : State) (seq : Nat) (slot : Slot) (src : Byte), composerLaw s →
    let payload := (instructionRecord src (render s.command.settings s.composer seq slot)).payload
    (∀ reason, slot.body = .waste reason → payload.length = 16) ∧
    ∀ b g, slot.body = .card b g →
      let card := cardText (fieldText slot.reel slot.number b g) s.composer.fieldMap
      card.length = 80 ∧ 26 ≤ payload.length ∧ payload.length ≤ 265 ∧
      card = printLineOf card ++ List.replicate (80 - (printLineOf card).length) 0x20#8 ∧
      (printLineOf card).getLast? ≠ some 0x20#8

/-- Three tables of a card: the flags a frame adds to its slot (R84), the NOTE by the first condition that holds (R106), and the
disposition (R117). -/
def Obligations.CardTablesHold : Prop :=
  (∀ (f : ClosedFrame) (g : SlotFlags),
    addFrameFlags f g =
      { g with
        oversize := g.oversize || decide (f.pitchClass = .long ∨ f.pitchClass = .gap)
        suspect := g.suspect || (decide (f.pitchClass = .gap) || f.suspect)
        pitchEstimated := g.pitchEstimated || f.pitchEstimated
        sampleOverflow := g.sampleOverflow || f.sampleOverflow
        poor := g.poor || decide (f.result.cls ≠ .good) }) ∧
  (∀ (b : Binding) (g : SlotFlags),
    let text (t : String) : List Byte := t.toList.map (fun c => BitVec.ofNat 8 c.toNat)
    (b = .except .unlisted → noteText b g = text "UNL") ∧
    (b = .except .extra → noteText b g = text "XTR") ∧
    ((∀ cause, b ≠ .except cause) →
      noteText b g =
        if g.lateRetake then text "LRT" else if g.early then text "ERL" else if g.short then text "SHT"
        else if g.suspect then text "SUS" else if g.poor then text "POR" else if g.retake then text "RTK"
        else [])) ∧
  ∀ (v : Settings) (b : Binding) (g : SlotFlags),
    (dispositionOf v b g = .reject ↔
      (∃ cause, b = .except cause) ∨ (g.poor = true ∧ v.poorReject = true) ∨
      (g.suspect = true ∧ v.suspectReject = true)) ∧
    (dispositionOf v b g = .mount ∨ dispositionOf v b g = .reject)

/-! Output controller (chapter 6). -/

/-- DONE in CONVERT, addressed to the position. For an entry in flight: every older entry leaves as unconfirmed with
DONE_TIMEOUT; OK then only removes the entry; JAMMED with the jam record empty keeps it there, HELD, with JAM set and latched;
JAMMED with it occupied loses it, counted and latched. For no entry, and in PASS: a stray, counted and latched (R125 to R130,
R153). DONE_DEADLINE_EXPIRY: the oldest entry of its sequence leaves as unconfirmed, counted, with DONE_TIMEOUT; with no such
entry nothing happens (R131, R132); it acts whatever time remains, the model's choice (notes/assumptions/2.md). Then the
arbiter chooses (`arbitrated`, by the model's choices of notes/assumptions/10.md and 27.md). -/
def Obligations.MounterReportsTaken : Prop :=
  (∀ (s : State) (dst src result : Byte) (seq : BitVec 16), listening s → s.line.mode ≠ .bypass →
    isPosition s.line src = false → isPosition s.line dst = true →
    ((s.line.mode = .pass ∨ ∀ e ∈ s.output.inFlight, e.instruction.seq ≠ seq.toNat) →
      exec (.done dst src seq result) s = .next (arbitrated (occur .strayDone { sorted s with
        command.counters.strays := saturate s.command.counters.strays }))) ∧
    ∀ older e newer, s.line.mode = .convert → s.output.inFlight = older ++ e :: newer →
      e.instruction.seq = seq.toNat → (∀ x ∈ older, x.instruction.seq ≠ seq.toNat) →
      let u := older.foldl (fun t _ => occur .doneTimeout { t with
        command.counters.unconfirmed := saturate t.command.counters.unconfirmed })
        { sorted s with output.inFlight := newer }
      (result = 0#8 → exec (.done dst src seq result) s = .next (arbitrated u)) ∧
      (result ≠ 0#8 → s.output.jam = none →
        exec (.done dst src seq result) s =
          .next (arbitrated (occur .jam (requestHalt .jam true { u with
            output.jam := some e.instruction, output.held := true })))) ∧
      (result ≠ 0#8 → s.output.jam ≠ none →
        exec (.done dst src seq result) s =
          .next (arbitrated (occur .jam { u with command.counters.jamLost := saturate u.command.counters.jamLost })))) ∧
  ∀ (s : State) (seq : BitVec 16),
    ((∀ e ∈ s.output.inFlight, e.instruction.seq ≠ seq.toNat) → exec (.doneDeadlineExpiry seq) s = .next (arbitrated s)) ∧
    ∀ older e newer, s.output.inFlight = older ++ e :: newer → e.instruction.seq = seq.toNat →
      (∀ x ∈ older, x.instruction.seq ≠ seq.toNat) →
      exec (.doneDeadlineExpiry seq) s = .next (arbitrated (occur .doneTimeout { s with
        output.inFlight := older ++ newer
        command.counters.unconfirmed := saturate s.command.counters.unconfirmed }))

/-- Halt reasons: the set holds each of the four by its own bit. A request that changes the set queues one report of the new
set: HALT with its bits, or FEED when it is empty, to READER; it replaces the waiting report in its place, or joins the tail.
A request that changes nothing queues nothing. The OUTPUT test sets OUTPUT at stop_level and above, clears it at go_level and
below, and keeps it between (R138 to R142, R205). -/
def Obligations.HaltReasonsReported : Prop :=
  (∀ h : HaltSet, ([.output, .jam, .list, .lost] : List HaltReason).map (haltHas h) = [h.output, h.jam, h.list, h.lost]) ∧
  (∀ (k : HaltReason) (b : Bool) (s : State),
    (haltHas s.output.halt k = b → requestHalt k b s = s) ∧
    (haltHas s.output.halt k ≠ b →
      let h : HaltSet := match k with
        | .output => { s.output.halt with output := b }
        | .jam => { s.output.halt with jam := b }
        | .list => { s.output.halt with list := b }
        | .lost => { s.output.halt with lost := b }
      let bits : Nat := (if h.output then 1 else 0) + (if h.jam then 2 else 0) + (if h.list then 4 else 0) +
        (if h.lost then 8 else 0)
      let from' : Byte := match s.line.position with | some p => BitVec.ofNat 8 p | none => 255#8
      let report : Record :=
        if bits = 0 then ⟨0x31#8, 64#8, from', []⟩ else ⟨0x30#8, 64#8, from', [BitVec.ofNat 8 bits]⟩
      requestHalt k b s = { s with
        output.halt := h
        line.control :=
          if ∃ c ∈ s.line.control, c.halt = true then
            s.line.control.map (fun c => if c.halt then { halt := true, record := report } else c)
          else s.line.control ++ [{ halt := true, record := report }] })) ∧
  ∀ s : State, settingsLaw s →
    (s.command.settings.stopLevel ≤ s.output.queue.length → outputTest s = requestHalt .output true s) ∧
    (s.output.queue.length ≤ s.command.settings.goLevel → outputTest s = requestHalt .output false s) ∧
    (s.command.settings.goLevel < s.output.queue.length → s.output.queue.length < s.command.settings.stopLevel →
      outputTest s = s)

/-! Laws of the device that every step keeps, and reset. -/

/-- Right after reset every law of the device holds, and the part stands in BYPASS on the THROUGH path in HUNT, idle. -/
def Obligations.ResetIsLawful : Prop :=
  lawful State.reset ∧ State.reset.line.mode = .bypass ∧ State.reset.line.path = .through ∧
  State.reset.line.alignment = .hunt ∧ State.reset.tracker.state = .idle ∧ State.reset.pending = []

/-- Every step keeps the tables and settings lawful: the density table non-increasing within 0..400 (R35), the settings in
range and consistent (R173, R174), the field map on the card and 64 patterns (R107, R112), and, over a lawful table, the
accumulators within their bounds (R29, R42). -/
def Obligations.StepKeepsTables : Prop :=
  ∀ s t : State, step s = .next t →
    (tableLaw s → tableLaw t) ∧ (settingsLaw s → settingsLaw t) ∧ (composerLaw s → composerLaw t) ∧
    (tableLaw s → accumulatorLaw s.density.acc → accumulatorLaw t.density.acc)

/-- Every step keeps the line port lawful: no position in BYPASS and 1..62 otherwise (R159), the run counts in their bounds
(R150, R151), the path THROUGH while NRST is low (R148), nothing waiting at a free port that the arbiter would send (R164;
by the model's choice of notes/assumptions/27.md at the end of each step), the forward queue within 4096 bytes (R160), the
control queue within seven records and one halt report (R141, R162, R163). -/
def Obligations.StepKeepsLinePort : Prop :=
  ∀ s t : State, step s = .next t →
    (positionLaw s → positionLaw t) ∧ (runLaw s → runLaw t) ∧ (signalLaw s → signalLaw t) ∧
    (settledLaw s → settledLaw t) ∧ (forwardLaw s → forwardLaw t) ∧
    (controlLaw s → controlLaw t)

/-- Every step keeps the output controller lawful: nothing held outside CONVERT (R68, R121, R179), at most 24 instructions but
for a reissued one at the front (R122), no more in flight than the credit limit (R124), OUTPUT with its hysteresis (R139), and
the reasons LIST, LOST and JAM exactly while their conditions stand (R27, R73, R129, R135, R136). -/
def Obligations.StepKeepsOutput : Prop :=
  ∀ s t : State, step s = .next t →
    (quietLaw s → quietLaw t) ∧ (queueLaw s → queueLaw t) ∧ (quietLaw s → creditLaw s → creditLaw t) ∧
    (quietLaw s → settingsLaw s → hysteresisLaw s → hysteresisLaw t) ∧ (haltLaw s → haltLaw t)

/-- Every step keeps the hold queue within 32 slots in rising frame order (R70), no releasable head waiting while there is room
(R91), the drawing list within 256 entries in range with consecutive numbers up to the expected one (R51, R52), and, over a
lawful list, the sheets seen of the open drawing within its sheet count and 32, with its entry copy in range (R51, R71). -/
def Obligations.StepKeepsMatching : Prop :=
  ∀ s t : State, step s = .next t →
    (holdLaw s → holdLaw t) ∧ (releasedLaw s → releasedLaw t) ∧ (listLaw s → listLaw t) ∧
    (listLaw s → drawingLaw s → drawingLaw t)

/-- Every step keeps the tracker's state, frame in assembly, acquisition buffer and numbers together (R1, R16, R21 to R24),
and the flush timer running only in CONVERT with something to wait for (R94). -/
def Obligations.StepKeepsTracker : Prop :=
  ∀ s t : State, step s = .next t → (trackerLaw s → trackerLaw t) ∧ (timerLaw s → timerLaw t)

/-- Every frame is accounted for: while frames accepted equals cards plus wastes plus the slots held, every step keeps it so,
but for a counter that saturates and a clear of the counters, after which only slots held before it are counted or held (R92,
R100, R196). -/
def Obligations.StepKeepsFrameCount : Prop :=
  ∀ s t : State, step s = .next t →
    let balanced (x : State) : Prop :=
      x.command.counters.framesAccepted =
        x.command.counters.cards + x.command.counters.wastes + x.matching.hold.length
    balanced s →
    balanced t ∨ 65535 ≤ t.command.counters.framesAccepted ∨ 65535 ≤ t.command.counters.cards ∨
    65535 ≤ t.command.counters.wastes ∨
    (t.command.counters.framesAccepted = 0 ∧
      t.command.counters.cards + t.command.counters.wastes + t.matching.hold.length ≤ s.matching.hold.length)

end
end

