-- ==== Sys2Proof/Laws/Bytes.lean ====
section
/-! SUPPORT. Numbers and their bytes: lengths, and a number read back from its bytes. -/

namespace Sys2Proof.Machine

@[simp] theorem be8_length (n : Nat) : (be8 n).length = 1 := rfl
@[simp] theorem be16_length (n : Nat) : (be16 n).length = 2 := rfl
@[simp] theorem be24_length (n : Nat) : (be24 n).length = 3 := rfl
@[simp] theorem be32_length (n : Nat) : (be32 n).length = 4 := rfl

theorem readBe_be8 (n : Nat) : readBe (be8 n) = n % 256 := by
  simp [readBe, be8, BitVec.toNat_ofNat]

theorem readBe_be16 (n : Nat) : readBe (be16 n) = n % 65536 := by
  simp [readBe, be16, BitVec.toNat_ofNat]; omega

theorem readBe_be24 (n : Nat) : readBe (be24 n) = n % 16777216 := by
  simp [readBe, be24, BitVec.toNat_ofNat]; omega

theorem readBe_be32 (n : Nat) : readBe (be32 n) = n % 4294967296 := by
  simp [readBe, be32, be16, BitVec.toNat_ofNat]; omega

@[simp] theorem recordBytes_length (r : Record) : (recordBytes r).length = recordLength r := by
  simp [recordBytes, headerBytes, recordLength]; omega

end Sys2Proof.Machine
end

