-- ==== Sys2Proof/Laws/State.lean ====
section
/-! SUPPORT. What each named update of the state writes and what it keeps: one lemma for each field, true by unfolding. -/

namespace Sys2Proof.Machine

/-! advance -/

@[simp] theorem advance_signals (k : Counter) (s : State) : (advance k s).signals = s.signals := rfl
@[simp] theorem advance_line (k : Counter) (s : State) : (advance k s).line = s.line := rfl
@[simp] theorem advance_tracker (k : Counter) (s : State) : (advance k s).tracker = s.tracker := rfl
@[simp] theorem advance_density (k : Counter) (s : State) : (advance k s).density = s.density := rfl
@[simp] theorem advance_list (k : Counter) (s : State) : (advance k s).list = s.list := rfl
@[simp] theorem advance_matching (k : Counter) (s : State) : (advance k s).matching = s.matching := rfl
@[simp] theorem advance_composer (k : Counter) (s : State) : (advance k s).composer = s.composer := rfl
@[simp] theorem advance_output (k : Counter) (s : State) : (advance k s).output = s.output := rfl
@[simp] theorem advance_command_settings (k : Counter) (s : State) : (advance k s).command.settings = s.command.settings := rfl
@[simp] theorem advance_command_latched (k : Counter) (s : State) : (advance k s).command.latched = s.command.latched := rfl
@[simp] theorem advance_command_mask (k : Counter) (s : State) : (advance k s).command.mask = s.command.mask := rfl
@[simp] theorem advance_command_arming (k : Counter) (s : State) : (advance k s).command.arming = s.command.arming := rfl
@[simp] theorem advance_openChoices (k : Counter) (s : State) : (advance k s).openChoices = s.openChoices := rfl
@[simp] theorem advance_pending (k : Counter) (s : State) : (advance k s).pending = s.pending := rfl
@[simp] theorem advance_command_counters (k : Counter) (s : State) : (advance k s).command.counters = advanceCounter k s.command.counters := rfl
/-! queueControl -/

@[simp] theorem queueControl_signals (r : Record) (s : State) : (queueControl r s).signals = s.signals := rfl
@[simp] theorem queueControl_line_mode (r : Record) (s : State) : (queueControl r s).line.mode = s.line.mode := rfl
@[simp] theorem queueControl_line_path (r : Record) (s : State) : (queueControl r s).line.path = s.line.path := rfl
@[simp] theorem queueControl_line_alignment (r : Record) (s : State) : (queueControl r s).line.alignment = s.line.alignment := rfl
@[simp] theorem queueControl_line_goodRun (r : Record) (s : State) : (queueControl r s).line.goodRun = s.line.goodRun := rfl
@[simp] theorem queueControl_line_badRun (r : Record) (s : State) : (queueControl r s).line.badRun = s.line.badRun := rfl
@[simp] theorem queueControl_line_position (r : Record) (s : State) : (queueControl r s).line.position = s.line.position := rfl
@[simp] theorem queueControl_line_strap (r : Record) (s : State) : (queueControl r s).line.strap = s.line.strap := rfl
@[simp] theorem queueControl_line_forward (r : Record) (s : State) : (queueControl r s).line.forward = s.line.forward := rfl
@[simp] theorem queueControl_line_replyReserved (r : Record) (s : State) : (queueControl r s).line.replyReserved = s.line.replyReserved := rfl
@[simp] theorem queueControl_line_burst (r : Record) (s : State) : (queueControl r s).line.burst = s.line.burst := rfl
@[simp] theorem queueControl_line_sending (r : Record) (s : State) : (queueControl r s).line.sending = s.line.sending := rfl
@[simp] theorem queueControl_tracker (r : Record) (s : State) : (queueControl r s).tracker = s.tracker := rfl
@[simp] theorem queueControl_density (r : Record) (s : State) : (queueControl r s).density = s.density := rfl
@[simp] theorem queueControl_list (r : Record) (s : State) : (queueControl r s).list = s.list := rfl
@[simp] theorem queueControl_matching (r : Record) (s : State) : (queueControl r s).matching = s.matching := rfl
@[simp] theorem queueControl_composer (r : Record) (s : State) : (queueControl r s).composer = s.composer := rfl
@[simp] theorem queueControl_output (r : Record) (s : State) : (queueControl r s).output = s.output := rfl
@[simp] theorem queueControl_command (r : Record) (s : State) : (queueControl r s).command = s.command := rfl
@[simp] theorem queueControl_openChoices (r : Record) (s : State) : (queueControl r s).openChoices = s.openChoices := rfl
@[simp] theorem queueControl_pending (r : Record) (s : State) : (queueControl r s).pending = s.pending := rfl
@[simp] theorem queueControl_line_control (r : Record) (s : State) : (queueControl r s).line.control = s.line.control ++ [{ halt := false, record := r }] := rfl
/-! reservePlace -/

@[simp] theorem reservePlace_signals (s : State) : (reservePlace s).signals = s.signals := rfl
@[simp] theorem reservePlace_line_mode (s : State) : (reservePlace s).line.mode = s.line.mode := rfl
@[simp] theorem reservePlace_line_path (s : State) : (reservePlace s).line.path = s.line.path := rfl
@[simp] theorem reservePlace_line_alignment (s : State) : (reservePlace s).line.alignment = s.line.alignment := rfl
@[simp] theorem reservePlace_line_goodRun (s : State) : (reservePlace s).line.goodRun = s.line.goodRun := rfl
@[simp] theorem reservePlace_line_badRun (s : State) : (reservePlace s).line.badRun = s.line.badRun := rfl
@[simp] theorem reservePlace_line_position (s : State) : (reservePlace s).line.position = s.line.position := rfl
@[simp] theorem reservePlace_line_strap (s : State) : (reservePlace s).line.strap = s.line.strap := rfl
@[simp] theorem reservePlace_line_forward (s : State) : (reservePlace s).line.forward = s.line.forward := rfl
@[simp] theorem reservePlace_line_control (s : State) : (reservePlace s).line.control = s.line.control := rfl
@[simp] theorem reservePlace_line_burst (s : State) : (reservePlace s).line.burst = s.line.burst := rfl
@[simp] theorem reservePlace_line_sending (s : State) : (reservePlace s).line.sending = s.line.sending := rfl
@[simp] theorem reservePlace_tracker (s : State) : (reservePlace s).tracker = s.tracker := rfl
@[simp] theorem reservePlace_density (s : State) : (reservePlace s).density = s.density := rfl
@[simp] theorem reservePlace_list (s : State) : (reservePlace s).list = s.list := rfl
@[simp] theorem reservePlace_matching (s : State) : (reservePlace s).matching = s.matching := rfl
@[simp] theorem reservePlace_composer (s : State) : (reservePlace s).composer = s.composer := rfl
@[simp] theorem reservePlace_output (s : State) : (reservePlace s).output = s.output := rfl
@[simp] theorem reservePlace_command (s : State) : (reservePlace s).command = s.command := rfl
@[simp] theorem reservePlace_openChoices (s : State) : (reservePlace s).openChoices = s.openChoices := rfl
@[simp] theorem reservePlace_pending (s : State) : (reservePlace s).pending = s.pending := rfl
@[simp] theorem reservePlace_line_replyReserved (s : State) : (reservePlace s).line.replyReserved = true := rfl
/-! freePlace -/

@[simp] theorem freePlace_signals (s : State) : (freePlace s).signals = s.signals := rfl
@[simp] theorem freePlace_line_mode (s : State) : (freePlace s).line.mode = s.line.mode := rfl
@[simp] theorem freePlace_line_path (s : State) : (freePlace s).line.path = s.line.path := rfl
@[simp] theorem freePlace_line_alignment (s : State) : (freePlace s).line.alignment = s.line.alignment := rfl
@[simp] theorem freePlace_line_goodRun (s : State) : (freePlace s).line.goodRun = s.line.goodRun := rfl
@[simp] theorem freePlace_line_badRun (s : State) : (freePlace s).line.badRun = s.line.badRun := rfl
@[simp] theorem freePlace_line_position (s : State) : (freePlace s).line.position = s.line.position := rfl
@[simp] theorem freePlace_line_strap (s : State) : (freePlace s).line.strap = s.line.strap := rfl
@[simp] theorem freePlace_line_forward (s : State) : (freePlace s).line.forward = s.line.forward := rfl
@[simp] theorem freePlace_line_control (s : State) : (freePlace s).line.control = s.line.control := rfl
@[simp] theorem freePlace_line_burst (s : State) : (freePlace s).line.burst = s.line.burst := rfl
@[simp] theorem freePlace_line_sending (s : State) : (freePlace s).line.sending = s.line.sending := rfl
@[simp] theorem freePlace_tracker (s : State) : (freePlace s).tracker = s.tracker := rfl
@[simp] theorem freePlace_density (s : State) : (freePlace s).density = s.density := rfl
@[simp] theorem freePlace_list (s : State) : (freePlace s).list = s.list := rfl
@[simp] theorem freePlace_matching (s : State) : (freePlace s).matching = s.matching := rfl
@[simp] theorem freePlace_composer (s : State) : (freePlace s).composer = s.composer := rfl
@[simp] theorem freePlace_output (s : State) : (freePlace s).output = s.output := rfl
@[simp] theorem freePlace_command (s : State) : (freePlace s).command = s.command := rfl
@[simp] theorem freePlace_openChoices (s : State) : (freePlace s).openChoices = s.openChoices := rfl
@[simp] theorem freePlace_pending (s : State) : (freePlace s).pending = s.pending := rfl
@[simp] theorem freePlace_line_replyReserved (s : State) : (freePlace s).line.replyReserved = false := rfl
/-! reply -/

@[simp] theorem reply_signals (src code : Byte) (status : Status) (data : List Byte) (s : State) : (reply src code status data s).signals = s.signals := rfl
@[simp] theorem reply_line_mode (src code : Byte) (status : Status) (data : List Byte) (s : State) : (reply src code status data s).line.mode = s.line.mode := rfl
@[simp] theorem reply_line_path (src code : Byte) (status : Status) (data : List Byte) (s : State) : (reply src code status data s).line.path = s.line.path := rfl
@[simp] theorem reply_line_alignment (src code : Byte) (status : Status) (data : List Byte) (s : State) : (reply src code status data s).line.alignment = s.line.alignment := rfl
@[simp] theorem reply_line_goodRun (src code : Byte) (status : Status) (data : List Byte) (s : State) : (reply src code status data s).line.goodRun = s.line.goodRun := rfl
@[simp] theorem reply_line_badRun (src code : Byte) (status : Status) (data : List Byte) (s : State) : (reply src code status data s).line.badRun = s.line.badRun := rfl
@[simp] theorem reply_line_position (src code : Byte) (status : Status) (data : List Byte) (s : State) : (reply src code status data s).line.position = s.line.position := rfl
@[simp] theorem reply_line_strap (src code : Byte) (status : Status) (data : List Byte) (s : State) : (reply src code status data s).line.strap = s.line.strap := rfl
@[simp] theorem reply_line_forward (src code : Byte) (status : Status) (data : List Byte) (s : State) : (reply src code status data s).line.forward = s.line.forward := rfl
@[simp] theorem reply_line_burst (src code : Byte) (status : Status) (data : List Byte) (s : State) : (reply src code status data s).line.burst = s.line.burst := rfl
@[simp] theorem reply_line_sending (src code : Byte) (status : Status) (data : List Byte) (s : State) : (reply src code status data s).line.sending = s.line.sending := rfl
@[simp] theorem reply_tracker (src code : Byte) (status : Status) (data : List Byte) (s : State) : (reply src code status data s).tracker = s.tracker := rfl
@[simp] theorem reply_density (src code : Byte) (status : Status) (data : List Byte) (s : State) : (reply src code status data s).density = s.density := rfl
@[simp] theorem reply_list (src code : Byte) (status : Status) (data : List Byte) (s : State) : (reply src code status data s).list = s.list := rfl
@[simp] theorem reply_matching (src code : Byte) (status : Status) (data : List Byte) (s : State) : (reply src code status data s).matching = s.matching := rfl
@[simp] theorem reply_composer (src code : Byte) (status : Status) (data : List Byte) (s : State) : (reply src code status data s).composer = s.composer := rfl
@[simp] theorem reply_output (src code : Byte) (status : Status) (data : List Byte) (s : State) : (reply src code status data s).output = s.output := rfl
@[simp] theorem reply_command (src code : Byte) (status : Status) (data : List Byte) (s : State) : (reply src code status data s).command = s.command := rfl
@[simp] theorem reply_openChoices (src code : Byte) (status : Status) (data : List Byte) (s : State) : (reply src code status data s).openChoices = s.openChoices := rfl
@[simp] theorem reply_pending (src code : Byte) (status : Status) (data : List Byte) (s : State) : (reply src code status data s).pending = s.pending := rfl
@[simp] theorem reply_line_control (src code : Byte) (status : Status) (data : List Byte) (s : State) : (reply src code status data s).line.control = s.line.control ++ [{ halt := false, record := replyRecord src code status data s }] := rfl
@[simp] theorem reply_line_replyReserved (src code : Byte) (status : Status) (data : List Byte) (s : State) : (reply src code status data s).line.replyReserved = false := rfl
/-! emptyAcc -/

@[simp] theorem emptyAcc_signals (s : State) : (emptyAcc s).signals = s.signals := rfl
@[simp] theorem emptyAcc_line (s : State) : (emptyAcc s).line = s.line := rfl
@[simp] theorem emptyAcc_tracker (s : State) : (emptyAcc s).tracker = s.tracker := rfl
@[simp] theorem emptyAcc_density_table (s : State) : (emptyAcc s).density.table = s.density.table := rfl
@[simp] theorem emptyAcc_density_last (s : State) : (emptyAcc s).density.last = s.density.last := rfl
@[simp] theorem emptyAcc_list (s : State) : (emptyAcc s).list = s.list := rfl
@[simp] theorem emptyAcc_matching (s : State) : (emptyAcc s).matching = s.matching := rfl
@[simp] theorem emptyAcc_composer (s : State) : (emptyAcc s).composer = s.composer := rfl
@[simp] theorem emptyAcc_output (s : State) : (emptyAcc s).output = s.output := rfl
@[simp] theorem emptyAcc_command (s : State) : (emptyAcc s).command = s.command := rfl
@[simp] theorem emptyAcc_openChoices (s : State) : (emptyAcc s).openChoices = s.openChoices := rfl
@[simp] theorem emptyAcc_pending (s : State) : (emptyAcc s).pending = s.pending := rfl
@[simp] theorem emptyAcc_density_acc (s : State) : (emptyAcc s).density.acc = emptyAccumulators := rfl
/-! startSending -/

@[simp] theorem startSending_signals (forwarded : Bool) (r : Record) (s : State) : (startSending forwarded r s).signals = s.signals := rfl
@[simp] theorem startSending_line_mode (forwarded : Bool) (r : Record) (s : State) : (startSending forwarded r s).line.mode = s.line.mode := rfl
@[simp] theorem startSending_line_path (forwarded : Bool) (r : Record) (s : State) : (startSending forwarded r s).line.path = s.line.path := rfl
@[simp] theorem startSending_line_alignment (forwarded : Bool) (r : Record) (s : State) : (startSending forwarded r s).line.alignment = s.line.alignment := rfl
@[simp] theorem startSending_line_goodRun (forwarded : Bool) (r : Record) (s : State) : (startSending forwarded r s).line.goodRun = s.line.goodRun := rfl
@[simp] theorem startSending_line_badRun (forwarded : Bool) (r : Record) (s : State) : (startSending forwarded r s).line.badRun = s.line.badRun := rfl
@[simp] theorem startSending_line_position (forwarded : Bool) (r : Record) (s : State) : (startSending forwarded r s).line.position = s.line.position := rfl
@[simp] theorem startSending_line_strap (forwarded : Bool) (r : Record) (s : State) : (startSending forwarded r s).line.strap = s.line.strap := rfl
@[simp] theorem startSending_line_forward (forwarded : Bool) (r : Record) (s : State) : (startSending forwarded r s).line.forward = s.line.forward := rfl
@[simp] theorem startSending_line_control (forwarded : Bool) (r : Record) (s : State) : (startSending forwarded r s).line.control = s.line.control := rfl
@[simp] theorem startSending_line_replyReserved (forwarded : Bool) (r : Record) (s : State) : (startSending forwarded r s).line.replyReserved = s.line.replyReserved := rfl
@[simp] theorem startSending_line_burst (forwarded : Bool) (r : Record) (s : State) : (startSending forwarded r s).line.burst = s.line.burst := rfl
@[simp] theorem startSending_tracker (forwarded : Bool) (r : Record) (s : State) : (startSending forwarded r s).tracker = s.tracker := rfl
@[simp] theorem startSending_density (forwarded : Bool) (r : Record) (s : State) : (startSending forwarded r s).density = s.density := rfl
@[simp] theorem startSending_list (forwarded : Bool) (r : Record) (s : State) : (startSending forwarded r s).list = s.list := rfl
@[simp] theorem startSending_matching (forwarded : Bool) (r : Record) (s : State) : (startSending forwarded r s).matching = s.matching := rfl
@[simp] theorem startSending_composer (forwarded : Bool) (r : Record) (s : State) : (startSending forwarded r s).composer = s.composer := rfl
@[simp] theorem startSending_output (forwarded : Bool) (r : Record) (s : State) : (startSending forwarded r s).output = s.output := rfl
@[simp] theorem startSending_command (forwarded : Bool) (r : Record) (s : State) : (startSending forwarded r s).command = s.command := rfl
@[simp] theorem startSending_openChoices (forwarded : Bool) (r : Record) (s : State) : (startSending forwarded r s).openChoices = s.openChoices := rfl
@[simp] theorem startSending_pending (forwarded : Bool) (r : Record) (s : State) : (startSending forwarded r s).pending = s.pending := rfl
@[simp] theorem startSending_line_sending (forwarded : Bool) (r : Record) (s : State) : (startSending forwarded r s).line.sending = some { forwarded := forwarded, record := r } := rfl
/-! startFrame -/

@[simp] theorem startFrame_signals (mark : MarkClass) (c : Nat) (s : State) : (startFrame mark c s).signals = s.signals := rfl
@[simp] theorem startFrame_line (mark : MarkClass) (c : Nat) (s : State) : (startFrame mark c s).line = s.line := rfl
@[simp] theorem startFrame_tracker_state (mark : MarkClass) (c : Nat) (s : State) : (startFrame mark c s).tracker.state = s.tracker.state := rfl
@[simp] theorem startFrame_tracker_reel (mark : MarkClass) (c : Nat) (s : State) : (startFrame mark c s).tracker.reel = s.tracker.reel := rfl
@[simp] theorem startFrame_tracker_pitchChecking (mark : MarkClass) (c : Nat) (s : State) : (startFrame mark c s).tracker.pitchChecking = s.tracker.pitchChecking := rfl
@[simp] theorem startFrame_tracker_lastMark (mark : MarkClass) (c : Nat) (s : State) : (startFrame mark c s).tracker.lastMark = s.tracker.lastMark := rfl
@[simp] theorem startFrame_tracker_nextNew (mark : MarkClass) (c : Nat) (s : State) : (startFrame mark c s).tracker.nextNew = s.tracker.nextNew := rfl
@[simp] theorem startFrame_tracker_frameCounter (mark : MarkClass) (c : Nat) (s : State) : (startFrame mark c s).tracker.frameCounter = s.tracker.frameCounter := rfl
@[simp] theorem startFrame_tracker_buffer (mark : MarkClass) (c : Nat) (s : State) : (startFrame mark c s).tracker.buffer = s.tracker.buffer := rfl
@[simp] theorem startFrame_tracker_closeCount (mark : MarkClass) (c : Nat) (s : State) : (startFrame mark c s).tracker.closeCount = s.tracker.closeCount := rfl
@[simp] theorem startFrame_density_table (mark : MarkClass) (c : Nat) (s : State) : (startFrame mark c s).density.table = s.density.table := rfl
@[simp] theorem startFrame_density_last (mark : MarkClass) (c : Nat) (s : State) : (startFrame mark c s).density.last = s.density.last := rfl
@[simp] theorem startFrame_list (mark : MarkClass) (c : Nat) (s : State) : (startFrame mark c s).list = s.list := rfl
@[simp] theorem startFrame_matching (mark : MarkClass) (c : Nat) (s : State) : (startFrame mark c s).matching = s.matching := rfl
@[simp] theorem startFrame_composer (mark : MarkClass) (c : Nat) (s : State) : (startFrame mark c s).composer = s.composer := rfl
@[simp] theorem startFrame_output (mark : MarkClass) (c : Nat) (s : State) : (startFrame mark c s).output = s.output := rfl
@[simp] theorem startFrame_command (mark : MarkClass) (c : Nat) (s : State) : (startFrame mark c s).command = s.command := rfl
@[simp] theorem startFrame_openChoices (mark : MarkClass) (c : Nat) (s : State) : (startFrame mark c s).openChoices = s.openChoices := rfl
@[simp] theorem startFrame_pending (mark : MarkClass) (c : Nat) (s : State) : (startFrame mark c s).pending = s.pending := rfl
@[simp] theorem startFrame_density_acc (mark : MarkClass) (c : Nat) (s : State) : (startFrame mark c s).density.acc = emptyAccumulators := rfl
@[simp] theorem startFrame_tracker_assembly (mark : MarkClass) (c : Nat) (s : State) : (startFrame mark c s).tracker.assembly = some { mark := mark, counter := c, lines := 0, lineOverflow := false } := rfl
/-! resetBlocks -/

@[simp] theorem resetBlocks_signals (s : State) : (resetBlocks s).signals = s.signals := rfl
@[simp] theorem resetBlocks_line (s : State) : (resetBlocks s).line = s.line := rfl
@[simp] theorem resetBlocks_density_table (s : State) : (resetBlocks s).density.table = s.density.table := rfl
@[simp] theorem resetBlocks_list (s : State) : (resetBlocks s).list = s.list := rfl
@[simp] theorem resetBlocks_matching_serial (s : State) : (resetBlocks s).matching.serial = s.matching.serial := rfl
@[simp] theorem resetBlocks_composer (s : State) : (resetBlocks s).composer = s.composer := rfl
@[simp] theorem resetBlocks_output_nextSeq (s : State) : (resetBlocks s).output.nextSeq = s.output.nextSeq := rfl
@[simp] theorem resetBlocks_command_settings (s : State) : (resetBlocks s).command.settings = s.command.settings := rfl
@[simp] theorem resetBlocks_command_latched (s : State) : (resetBlocks s).command.latched = s.command.latched := rfl
@[simp] theorem resetBlocks_command_mask (s : State) : (resetBlocks s).command.mask = s.command.mask := rfl
@[simp] theorem resetBlocks_command_arming (s : State) : (resetBlocks s).command.arming = s.command.arming := rfl
@[simp] theorem resetBlocks_openChoices (s : State) : (resetBlocks s).openChoices = s.openChoices := rfl
@[simp] theorem resetBlocks_pending (s : State) : (resetBlocks s).pending = s.pending := rfl
@[simp] theorem resetBlocks_tracker (s : State) : (resetBlocks s).tracker = powerOnTracker := rfl
@[simp] theorem resetBlocks_density_acc (s : State) : (resetBlocks s).density.acc = emptyAccumulators := rfl
@[simp] theorem resetBlocks_density_last (s : State) : (resetBlocks s).density.last = none := rfl
@[simp] theorem resetBlocks_matching_hold (s : State) : (resetBlocks s).matching.hold = [] := rfl
@[simp] theorem resetBlocks_matching_drawing (s : State) : (resetBlocks s).matching.drawing = none := rfl
@[simp] theorem resetBlocks_matching_recent (s : State) : (resetBlocks s).matching.recent = none := rfl
@[simp] theorem resetBlocks_matching_flushTimer (s : State) : (resetBlocks s).matching.flushTimer = none := rfl
@[simp] theorem resetBlocks_output_queue (s : State) : (resetBlocks s).output.queue = [] := rfl
@[simp] theorem resetBlocks_output_inFlight (s : State) : (resetBlocks s).output.inFlight = [] := rfl
@[simp] theorem resetBlocks_output_jam (s : State) : (resetBlocks s).output.jam = none := rfl
@[simp] theorem resetBlocks_output_held (s : State) : (resetBlocks s).output.held = false := rfl
@[simp] theorem resetBlocks_output_halt (s : State) : (resetBlocks s).output.halt = noHalt := rfl
@[simp] theorem resetBlocks_command_counters (s : State) : (resetBlocks s).command.counters = zeroCounters := rfl
/-! loadReel -/

@[simp] theorem loadReel_signals (r : ReelParams) (s : State) : (loadReel r s).signals = s.signals := rfl
@[simp] theorem loadReel_line (r : ReelParams) (s : State) : (loadReel r s).line = s.line := rfl
@[simp] theorem loadReel_tracker_state (r : ReelParams) (s : State) : (loadReel r s).tracker.state = s.tracker.state := rfl
@[simp] theorem loadReel_tracker_assembly (r : ReelParams) (s : State) : (loadReel r s).tracker.assembly = s.tracker.assembly := rfl
@[simp] theorem loadReel_tracker_buffer (r : ReelParams) (s : State) : (loadReel r s).tracker.buffer = s.tracker.buffer := rfl
@[simp] theorem loadReel_density (r : ReelParams) (s : State) : (loadReel r s).density = s.density := rfl
@[simp] theorem loadReel_list (r : ReelParams) (s : State) : (loadReel r s).list = s.list := rfl
@[simp] theorem loadReel_matching (r : ReelParams) (s : State) : (loadReel r s).matching = s.matching := rfl
@[simp] theorem loadReel_composer (r : ReelParams) (s : State) : (loadReel r s).composer = s.composer := rfl
@[simp] theorem loadReel_output (r : ReelParams) (s : State) : (loadReel r s).output = s.output := rfl
@[simp] theorem loadReel_command (r : ReelParams) (s : State) : (loadReel r s).command = s.command := rfl
@[simp] theorem loadReel_openChoices (r : ReelParams) (s : State) : (loadReel r s).openChoices = s.openChoices := rfl
@[simp] theorem loadReel_pending (r : ReelParams) (s : State) : (loadReel r s).pending = s.pending := rfl

end Sys2Proof.Machine
end

