-- ==== Sys2Proof/Laws/Ops.lean ====
section
/-! SUPPORT. What the shared operations can do: one lemma with every outcome of each, and one frame lemma for each field that
it keeps. -/

namespace Sys2Proof.Machine

/-- The notice test either queues a NOTICE and disarms, or changes nothing (R193). -/
theorem noticeTest_cases (cause : Option Event) (s : State) :
    (noticeFalls s = true ∧
      noticeTest cause s = { queueControl (noticeRecord cause s) s with command.arming := false }) ∨
    (noticeFalls s = false ∧ noticeTest cause s = s) := by
  unfold noticeTest
  cases h : noticeFalls s
  · exact .inr ⟨rfl, by simp⟩
  · exact .inl ⟨rfl, by simp [queueControl]⟩

@[simp] theorem noticeTest_signals (cause : Option Event) (s : State) : (noticeTest cause s).signals = s.signals := by
  rcases noticeTest_cases cause s with ⟨_, h⟩ | ⟨_, h⟩ <;> simp [h]
@[simp] theorem noticeTest_line_mode (cause : Option Event) (s : State) : (noticeTest cause s).line.mode = s.line.mode := by
  rcases noticeTest_cases cause s with ⟨_, h⟩ | ⟨_, h⟩ <;> simp [h]
@[simp] theorem noticeTest_line_path (cause : Option Event) (s : State) : (noticeTest cause s).line.path = s.line.path := by
  rcases noticeTest_cases cause s with ⟨_, h⟩ | ⟨_, h⟩ <;> simp [h]
@[simp] theorem noticeTest_line_alignment (cause : Option Event) (s : State) : (noticeTest cause s).line.alignment = s.line.alignment := by
  rcases noticeTest_cases cause s with ⟨_, h⟩ | ⟨_, h⟩ <;> simp [h]
@[simp] theorem noticeTest_line_goodRun (cause : Option Event) (s : State) : (noticeTest cause s).line.goodRun = s.line.goodRun := by
  rcases noticeTest_cases cause s with ⟨_, h⟩ | ⟨_, h⟩ <;> simp [h]
@[simp] theorem noticeTest_line_badRun (cause : Option Event) (s : State) : (noticeTest cause s).line.badRun = s.line.badRun := by
  rcases noticeTest_cases cause s with ⟨_, h⟩ | ⟨_, h⟩ <;> simp [h]
@[simp] theorem noticeTest_line_position (cause : Option Event) (s : State) : (noticeTest cause s).line.position = s.line.position := by
  rcases noticeTest_cases cause s with ⟨_, h⟩ | ⟨_, h⟩ <;> simp [h]
@[simp] theorem noticeTest_line_strap (cause : Option Event) (s : State) : (noticeTest cause s).line.strap = s.line.strap := by
  rcases noticeTest_cases cause s with ⟨_, h⟩ | ⟨_, h⟩ <;> simp [h]
@[simp] theorem noticeTest_line_forward (cause : Option Event) (s : State) : (noticeTest cause s).line.forward = s.line.forward := by
  rcases noticeTest_cases cause s with ⟨_, h⟩ | ⟨_, h⟩ <;> simp [h]
@[simp] theorem noticeTest_line_replyReserved (cause : Option Event) (s : State) : (noticeTest cause s).line.replyReserved = s.line.replyReserved := by
  rcases noticeTest_cases cause s with ⟨_, h⟩ | ⟨_, h⟩ <;> simp [h]
@[simp] theorem noticeTest_line_burst (cause : Option Event) (s : State) : (noticeTest cause s).line.burst = s.line.burst := by
  rcases noticeTest_cases cause s with ⟨_, h⟩ | ⟨_, h⟩ <;> simp [h]
@[simp] theorem noticeTest_line_sending (cause : Option Event) (s : State) : (noticeTest cause s).line.sending = s.line.sending := by
  rcases noticeTest_cases cause s with ⟨_, h⟩ | ⟨_, h⟩ <;> simp [h]
@[simp] theorem noticeTest_tracker (cause : Option Event) (s : State) : (noticeTest cause s).tracker = s.tracker := by
  rcases noticeTest_cases cause s with ⟨_, h⟩ | ⟨_, h⟩ <;> simp [h]
@[simp] theorem noticeTest_density (cause : Option Event) (s : State) : (noticeTest cause s).density = s.density := by
  rcases noticeTest_cases cause s with ⟨_, h⟩ | ⟨_, h⟩ <;> simp [h]
@[simp] theorem noticeTest_list (cause : Option Event) (s : State) : (noticeTest cause s).list = s.list := by
  rcases noticeTest_cases cause s with ⟨_, h⟩ | ⟨_, h⟩ <;> simp [h]
@[simp] theorem noticeTest_matching (cause : Option Event) (s : State) : (noticeTest cause s).matching = s.matching := by
  rcases noticeTest_cases cause s with ⟨_, h⟩ | ⟨_, h⟩ <;> simp [h]
@[simp] theorem noticeTest_composer (cause : Option Event) (s : State) : (noticeTest cause s).composer = s.composer := by
  rcases noticeTest_cases cause s with ⟨_, h⟩ | ⟨_, h⟩ <;> simp [h]
@[simp] theorem noticeTest_output (cause : Option Event) (s : State) : (noticeTest cause s).output = s.output := by
  rcases noticeTest_cases cause s with ⟨_, h⟩ | ⟨_, h⟩ <;> simp [h]
@[simp] theorem noticeTest_command_settings (cause : Option Event) (s : State) : (noticeTest cause s).command.settings = s.command.settings := by
  rcases noticeTest_cases cause s with ⟨_, h⟩ | ⟨_, h⟩ <;> simp [h]
@[simp] theorem noticeTest_command_latched (cause : Option Event) (s : State) : (noticeTest cause s).command.latched = s.command.latched := by
  rcases noticeTest_cases cause s with ⟨_, h⟩ | ⟨_, h⟩ <;> simp [h]
@[simp] theorem noticeTest_command_mask (cause : Option Event) (s : State) : (noticeTest cause s).command.mask = s.command.mask := by
  rcases noticeTest_cases cause s with ⟨_, h⟩ | ⟨_, h⟩ <;> simp [h]
@[simp] theorem noticeTest_command_counters (cause : Option Event) (s : State) : (noticeTest cause s).command.counters = s.command.counters := by
  rcases noticeTest_cases cause s with ⟨_, h⟩ | ⟨_, h⟩ <;> simp [h]
@[simp] theorem noticeTest_openChoices (cause : Option Event) (s : State) : (noticeTest cause s).openChoices = s.openChoices := by
  rcases noticeTest_cases cause s with ⟨_, h⟩ | ⟨_, h⟩ <;> simp [h]
@[simp] theorem noticeTest_pending (cause : Option Event) (s : State) : (noticeTest cause s).pending = s.pending := by
  rcases noticeTest_cases cause s with ⟨_, h⟩ | ⟨_, h⟩ <;> simp [h]

/-- An occurrence latches its event, and then either nothing else happens or a NOTICE joins the control queue (R189, R192). -/
theorem occur_cases (e : Event) (s : State) :
    occur e s = { s with command.latched := s.command.latched ||| eventBit e } ∨
    occur e s = noticeTest (some e) { s with command.latched := s.command.latched ||| eventBit e } := by
  unfold occur
  split
  · exact .inr rfl
  · exact .inl rfl

@[simp] theorem occur_signals (e : Event) (s : State) : (occur e s).signals = s.signals := by
  rcases occur_cases e s with h | h <;> simp [h]
@[simp] theorem occur_line_mode (e : Event) (s : State) : (occur e s).line.mode = s.line.mode := by
  rcases occur_cases e s with h | h <;> simp [h]
@[simp] theorem occur_line_path (e : Event) (s : State) : (occur e s).line.path = s.line.path := by
  rcases occur_cases e s with h | h <;> simp [h]
@[simp] theorem occur_line_alignment (e : Event) (s : State) : (occur e s).line.alignment = s.line.alignment := by
  rcases occur_cases e s with h | h <;> simp [h]
@[simp] theorem occur_line_goodRun (e : Event) (s : State) : (occur e s).line.goodRun = s.line.goodRun := by
  rcases occur_cases e s with h | h <;> simp [h]
@[simp] theorem occur_line_badRun (e : Event) (s : State) : (occur e s).line.badRun = s.line.badRun := by
  rcases occur_cases e s with h | h <;> simp [h]
@[simp] theorem occur_line_position (e : Event) (s : State) : (occur e s).line.position = s.line.position := by
  rcases occur_cases e s with h | h <;> simp [h]
@[simp] theorem occur_line_strap (e : Event) (s : State) : (occur e s).line.strap = s.line.strap := by
  rcases occur_cases e s with h | h <;> simp [h]
@[simp] theorem occur_line_forward (e : Event) (s : State) : (occur e s).line.forward = s.line.forward := by
  rcases occur_cases e s with h | h <;> simp [h]
@[simp] theorem occur_line_replyReserved (e : Event) (s : State) : (occur e s).line.replyReserved = s.line.replyReserved := by
  rcases occur_cases e s with h | h <;> simp [h]
@[simp] theorem occur_line_burst (e : Event) (s : State) : (occur e s).line.burst = s.line.burst := by
  rcases occur_cases e s with h | h <;> simp [h]
@[simp] theorem occur_line_sending (e : Event) (s : State) : (occur e s).line.sending = s.line.sending := by
  rcases occur_cases e s with h | h <;> simp [h]
@[simp] theorem occur_tracker (e : Event) (s : State) : (occur e s).tracker = s.tracker := by
  rcases occur_cases e s with h | h <;> simp [h]
@[simp] theorem occur_density (e : Event) (s : State) : (occur e s).density = s.density := by
  rcases occur_cases e s with h | h <;> simp [h]
@[simp] theorem occur_list (e : Event) (s : State) : (occur e s).list = s.list := by
  rcases occur_cases e s with h | h <;> simp [h]
@[simp] theorem occur_matching (e : Event) (s : State) : (occur e s).matching = s.matching := by
  rcases occur_cases e s with h | h <;> simp [h]
@[simp] theorem occur_composer (e : Event) (s : State) : (occur e s).composer = s.composer := by
  rcases occur_cases e s with h | h <;> simp [h]
@[simp] theorem occur_output (e : Event) (s : State) : (occur e s).output = s.output := by
  rcases occur_cases e s with h | h <;> simp [h]
@[simp] theorem occur_command_settings (e : Event) (s : State) : (occur e s).command.settings = s.command.settings := by
  rcases occur_cases e s with h | h <;> simp [h]
@[simp] theorem occur_command_mask (e : Event) (s : State) : (occur e s).command.mask = s.command.mask := by
  rcases occur_cases e s with h | h <;> simp [h]
@[simp] theorem occur_command_counters (e : Event) (s : State) : (occur e s).command.counters = s.command.counters := by
  rcases occur_cases e s with h | h <;> simp [h]
@[simp] theorem occur_openChoices (e : Event) (s : State) : (occur e s).openChoices = s.openChoices := by
  rcases occur_cases e s with h | h <;> simp [h]
@[simp] theorem occur_pending (e : Event) (s : State) : (occur e s).pending = s.pending := by
  rcases occur_cases e s with h | h <;> simp [h]
@[simp] theorem occur_command_latched (e : Event) (s : State) : (occur e s).command.latched = s.command.latched ||| eventBit e := by
  rcases occur_cases e s with h | h <;> simp [h]

/-- A request that finds the reason as asked changes nothing; else it writes the set and places its halt report (R138,
R140). -/
theorem requestHalt_cases (k : HaltReason) (b : Bool) (s : State) :
    (haltHas s.output.halt k = b ∧ requestHalt k b s = s) ∨
    (haltHas s.output.halt k ≠ b ∧
      requestHalt k b s =
        { s with
          output.halt := haltPut s.output.halt k b
          line.control :=
            placeHaltReport (haltRecord { s with output.halt := haltPut s.output.halt k b }) s.line.control }) := by
  unfold requestHalt
  by_cases h : haltHas s.output.halt k = b
  · exact .inl ⟨h, by simp [h]⟩
  · exact .inr ⟨h, by simp [h]⟩

@[simp] theorem requestHalt_signals (k : HaltReason) (b : Bool) (s : State) : (requestHalt k b s).signals = s.signals := by
  rcases requestHalt_cases k b s with ⟨_, h⟩ | ⟨_, h⟩ <;> simp [h]
@[simp] theorem requestHalt_line_mode (k : HaltReason) (b : Bool) (s : State) : (requestHalt k b s).line.mode = s.line.mode := by
  rcases requestHalt_cases k b s with ⟨_, h⟩ | ⟨_, h⟩ <;> simp [h]
@[simp] theorem requestHalt_line_path (k : HaltReason) (b : Bool) (s : State) : (requestHalt k b s).line.path = s.line.path := by
  rcases requestHalt_cases k b s with ⟨_, h⟩ | ⟨_, h⟩ <;> simp [h]
@[simp] theorem requestHalt_line_alignment (k : HaltReason) (b : Bool) (s : State) : (requestHalt k b s).line.alignment = s.line.alignment := by
  rcases requestHalt_cases k b s with ⟨_, h⟩ | ⟨_, h⟩ <;> simp [h]
@[simp] theorem requestHalt_line_goodRun (k : HaltReason) (b : Bool) (s : State) : (requestHalt k b s).line.goodRun = s.line.goodRun := by
  rcases requestHalt_cases k b s with ⟨_, h⟩ | ⟨_, h⟩ <;> simp [h]
@[simp] theorem requestHalt_line_badRun (k : HaltReason) (b : Bool) (s : State) : (requestHalt k b s).line.badRun = s.line.badRun := by
  rcases requestHalt_cases k b s with ⟨_, h⟩ | ⟨_, h⟩ <;> simp [h]
@[simp] theorem requestHalt_line_position (k : HaltReason) (b : Bool) (s : State) : (requestHalt k b s).line.position = s.line.position := by
  rcases requestHalt_cases k b s with ⟨_, h⟩ | ⟨_, h⟩ <;> simp [h]
@[simp] theorem requestHalt_line_strap (k : HaltReason) (b : Bool) (s : State) : (requestHalt k b s).line.strap = s.line.strap := by
  rcases requestHalt_cases k b s with ⟨_, h⟩ | ⟨_, h⟩ <;> simp [h]
@[simp] theorem requestHalt_line_forward (k : HaltReason) (b : Bool) (s : State) : (requestHalt k b s).line.forward = s.line.forward := by
  rcases requestHalt_cases k b s with ⟨_, h⟩ | ⟨_, h⟩ <;> simp [h]
@[simp] theorem requestHalt_line_replyReserved (k : HaltReason) (b : Bool) (s : State) : (requestHalt k b s).line.replyReserved = s.line.replyReserved := by
  rcases requestHalt_cases k b s with ⟨_, h⟩ | ⟨_, h⟩ <;> simp [h]
@[simp] theorem requestHalt_line_burst (k : HaltReason) (b : Bool) (s : State) : (requestHalt k b s).line.burst = s.line.burst := by
  rcases requestHalt_cases k b s with ⟨_, h⟩ | ⟨_, h⟩ <;> simp [h]
@[simp] theorem requestHalt_line_sending (k : HaltReason) (b : Bool) (s : State) : (requestHalt k b s).line.sending = s.line.sending := by
  rcases requestHalt_cases k b s with ⟨_, h⟩ | ⟨_, h⟩ <;> simp [h]
@[simp] theorem requestHalt_tracker (k : HaltReason) (b : Bool) (s : State) : (requestHalt k b s).tracker = s.tracker := by
  rcases requestHalt_cases k b s with ⟨_, h⟩ | ⟨_, h⟩ <;> simp [h]
@[simp] theorem requestHalt_density (k : HaltReason) (b : Bool) (s : State) : (requestHalt k b s).density = s.density := by
  rcases requestHalt_cases k b s with ⟨_, h⟩ | ⟨_, h⟩ <;> simp [h]
@[simp] theorem requestHalt_list (k : HaltReason) (b : Bool) (s : State) : (requestHalt k b s).list = s.list := by
  rcases requestHalt_cases k b s with ⟨_, h⟩ | ⟨_, h⟩ <;> simp [h]
@[simp] theorem requestHalt_matching (k : HaltReason) (b : Bool) (s : State) : (requestHalt k b s).matching = s.matching := by
  rcases requestHalt_cases k b s with ⟨_, h⟩ | ⟨_, h⟩ <;> simp [h]
@[simp] theorem requestHalt_composer (k : HaltReason) (b : Bool) (s : State) : (requestHalt k b s).composer = s.composer := by
  rcases requestHalt_cases k b s with ⟨_, h⟩ | ⟨_, h⟩ <;> simp [h]
@[simp] theorem requestHalt_output_queue (k : HaltReason) (b : Bool) (s : State) : (requestHalt k b s).output.queue = s.output.queue := by
  rcases requestHalt_cases k b s with ⟨_, h⟩ | ⟨_, h⟩ <;> simp [h]
@[simp] theorem requestHalt_output_nextSeq (k : HaltReason) (b : Bool) (s : State) : (requestHalt k b s).output.nextSeq = s.output.nextSeq := by
  rcases requestHalt_cases k b s with ⟨_, h⟩ | ⟨_, h⟩ <;> simp [h]
@[simp] theorem requestHalt_output_inFlight (k : HaltReason) (b : Bool) (s : State) : (requestHalt k b s).output.inFlight = s.output.inFlight := by
  rcases requestHalt_cases k b s with ⟨_, h⟩ | ⟨_, h⟩ <;> simp [h]
@[simp] theorem requestHalt_output_jam (k : HaltReason) (b : Bool) (s : State) : (requestHalt k b s).output.jam = s.output.jam := by
  rcases requestHalt_cases k b s with ⟨_, h⟩ | ⟨_, h⟩ <;> simp [h]
@[simp] theorem requestHalt_output_held (k : HaltReason) (b : Bool) (s : State) : (requestHalt k b s).output.held = s.output.held := by
  rcases requestHalt_cases k b s with ⟨_, h⟩ | ⟨_, h⟩ <;> simp [h]
@[simp] theorem requestHalt_command (k : HaltReason) (b : Bool) (s : State) : (requestHalt k b s).command = s.command := by
  rcases requestHalt_cases k b s with ⟨_, h⟩ | ⟨_, h⟩ <;> simp [h]
@[simp] theorem requestHalt_openChoices (k : HaltReason) (b : Bool) (s : State) : (requestHalt k b s).openChoices = s.openChoices := by
  rcases requestHalt_cases k b s with ⟨_, h⟩ | ⟨_, h⟩ <;> simp [h]
@[simp] theorem requestHalt_pending (k : HaltReason) (b : Bool) (s : State) : (requestHalt k b s).pending = s.pending := by
  rcases requestHalt_cases k b s with ⟨_, h⟩ | ⟨_, h⟩ <;> simp [h]

/-- After a request the reason stands as asked (R138). -/
@[simp] theorem requestHalt_haltHas (k : HaltReason) (b : Bool) (s : State) :
    haltHas (requestHalt k b s).output.halt k = b := by
  rcases requestHalt_cases k b s with ⟨h, e⟩ | ⟨_, e⟩
  · rw [e, h]
  · rw [e]; cases k <;> rfl

/-- A request leaves the other reasons as they were (R138). -/
theorem requestHalt_other (k j : HaltReason) (b : Bool) (s : State) (hkj : j ≠ k) :
    haltHas (requestHalt k b s).output.halt j = haltHas s.output.halt j := by
  rcases requestHalt_cases k b s with ⟨_, e⟩ | ⟨_, e⟩
  · rw [e]
  · rw [e]; cases k <;> cases j <;> first | rfl | exact absurd rfl hkj

/-- The OUTPUT test sets, clears or keeps OUTPUT (R139). -/
theorem outputTest_cases (s : State) :
    outputTest s = s ∨ ∃ b, outputTest s = requestHalt .output b s := by
  unfold outputTest
  dsimp only
  split
  · exact .inr ⟨true, rfl⟩
  · split
    · exact .inr ⟨false, rfl⟩
    · exact .inl rfl

@[simp] theorem outputTest_signals (s : State) : (outputTest s).signals = s.signals := by
  rcases outputTest_cases s with h | ⟨_, h⟩ <;> simp [h]
@[simp] theorem outputTest_line_mode (s : State) : (outputTest s).line.mode = s.line.mode := by
  rcases outputTest_cases s with h | ⟨_, h⟩ <;> simp [h]
@[simp] theorem outputTest_line_path (s : State) : (outputTest s).line.path = s.line.path := by
  rcases outputTest_cases s with h | ⟨_, h⟩ <;> simp [h]
@[simp] theorem outputTest_line_alignment (s : State) : (outputTest s).line.alignment = s.line.alignment := by
  rcases outputTest_cases s with h | ⟨_, h⟩ <;> simp [h]
@[simp] theorem outputTest_line_goodRun (s : State) : (outputTest s).line.goodRun = s.line.goodRun := by
  rcases outputTest_cases s with h | ⟨_, h⟩ <;> simp [h]
@[simp] theorem outputTest_line_badRun (s : State) : (outputTest s).line.badRun = s.line.badRun := by
  rcases outputTest_cases s with h | ⟨_, h⟩ <;> simp [h]
@[simp] theorem outputTest_line_position (s : State) : (outputTest s).line.position = s.line.position := by
  rcases outputTest_cases s with h | ⟨_, h⟩ <;> simp [h]
@[simp] theorem outputTest_line_strap (s : State) : (outputTest s).line.strap = s.line.strap := by
  rcases outputTest_cases s with h | ⟨_, h⟩ <;> simp [h]
@[simp] theorem outputTest_line_forward (s : State) : (outputTest s).line.forward = s.line.forward := by
  rcases outputTest_cases s with h | ⟨_, h⟩ <;> simp [h]
@[simp] theorem outputTest_line_replyReserved (s : State) : (outputTest s).line.replyReserved = s.line.replyReserved := by
  rcases outputTest_cases s with h | ⟨_, h⟩ <;> simp [h]
@[simp] theorem outputTest_line_burst (s : State) : (outputTest s).line.burst = s.line.burst := by
  rcases outputTest_cases s with h | ⟨_, h⟩ <;> simp [h]
@[simp] theorem outputTest_line_sending (s : State) : (outputTest s).line.sending = s.line.sending := by
  rcases outputTest_cases s with h | ⟨_, h⟩ <;> simp [h]
@[simp] theorem outputTest_tracker (s : State) : (outputTest s).tracker = s.tracker := by
  rcases outputTest_cases s with h | ⟨_, h⟩ <;> simp [h]
@[simp] theorem outputTest_density (s : State) : (outputTest s).density = s.density := by
  rcases outputTest_cases s with h | ⟨_, h⟩ <;> simp [h]
@[simp] theorem outputTest_list (s : State) : (outputTest s).list = s.list := by
  rcases outputTest_cases s with h | ⟨_, h⟩ <;> simp [h]
@[simp] theorem outputTest_matching (s : State) : (outputTest s).matching = s.matching := by
  rcases outputTest_cases s with h | ⟨_, h⟩ <;> simp [h]
@[simp] theorem outputTest_composer (s : State) : (outputTest s).composer = s.composer := by
  rcases outputTest_cases s with h | ⟨_, h⟩ <;> simp [h]
@[simp] theorem outputTest_output_queue (s : State) : (outputTest s).output.queue = s.output.queue := by
  rcases outputTest_cases s with h | ⟨_, h⟩ <;> simp [h]
@[simp] theorem outputTest_output_nextSeq (s : State) : (outputTest s).output.nextSeq = s.output.nextSeq := by
  rcases outputTest_cases s with h | ⟨_, h⟩ <;> simp [h]
@[simp] theorem outputTest_output_inFlight (s : State) : (outputTest s).output.inFlight = s.output.inFlight := by
  rcases outputTest_cases s with h | ⟨_, h⟩ <;> simp [h]
@[simp] theorem outputTest_output_jam (s : State) : (outputTest s).output.jam = s.output.jam := by
  rcases outputTest_cases s with h | ⟨_, h⟩ <;> simp [h]
@[simp] theorem outputTest_output_held (s : State) : (outputTest s).output.held = s.output.held := by
  rcases outputTest_cases s with h | ⟨_, h⟩ <;> simp [h]
@[simp] theorem outputTest_command (s : State) : (outputTest s).command = s.command := by
  rcases outputTest_cases s with h | ⟨_, h⟩ <;> simp [h]
@[simp] theorem outputTest_openChoices (s : State) : (outputTest s).openChoices = s.openChoices := by
  rcases outputTest_cases s with h | ⟨_, h⟩ <;> simp [h]
@[simp] theorem outputTest_pending (s : State) : (outputTest s).pending = s.pending := by
  rcases outputTest_cases s with h | ⟨_, h⟩ <;> simp [h]

/-- A record to pass on joins the forward queue, or is discarded with its counter and event (R160). -/
theorem forwardRecord_cases (r : Record) (s : State) :
    (forwardUsed s.line + recordLength r ≤ 4096 ∧
      forwardRecord r s = { s with line.forward := s.line.forward ++ [r] }) ∨
    (4096 < forwardUsed s.line + recordLength r ∧
      forwardRecord r s = occur .fwdOverflow (advance .forwardOverflows s)) := by
  unfold forwardRecord forwardBytes
  by_cases h : forwardUsed s.line + recordLength r ≤ 4096
  · exact .inl ⟨h, by simp [h]⟩
  · exact .inr ⟨by omega, by simp [h]⟩

@[simp] theorem forwardRecord_signals (r : Record) (s : State) : (forwardRecord r s).signals = s.signals := by
  rcases forwardRecord_cases r s with ⟨_, h⟩ | ⟨_, h⟩ <;> simp [h]
@[simp] theorem forwardRecord_line_mode (r : Record) (s : State) : (forwardRecord r s).line.mode = s.line.mode := by
  rcases forwardRecord_cases r s with ⟨_, h⟩ | ⟨_, h⟩ <;> simp [h]
@[simp] theorem forwardRecord_line_path (r : Record) (s : State) : (forwardRecord r s).line.path = s.line.path := by
  rcases forwardRecord_cases r s with ⟨_, h⟩ | ⟨_, h⟩ <;> simp [h]
@[simp] theorem forwardRecord_line_alignment (r : Record) (s : State) : (forwardRecord r s).line.alignment = s.line.alignment := by
  rcases forwardRecord_cases r s with ⟨_, h⟩ | ⟨_, h⟩ <;> simp [h]
@[simp] theorem forwardRecord_line_goodRun (r : Record) (s : State) : (forwardRecord r s).line.goodRun = s.line.goodRun := by
  rcases forwardRecord_cases r s with ⟨_, h⟩ | ⟨_, h⟩ <;> simp [h]
@[simp] theorem forwardRecord_line_badRun (r : Record) (s : State) : (forwardRecord r s).line.badRun = s.line.badRun := by
  rcases forwardRecord_cases r s with ⟨_, h⟩ | ⟨_, h⟩ <;> simp [h]
@[simp] theorem forwardRecord_line_position (r : Record) (s : State) : (forwardRecord r s).line.position = s.line.position := by
  rcases forwardRecord_cases r s with ⟨_, h⟩ | ⟨_, h⟩ <;> simp [h]
@[simp] theorem forwardRecord_line_strap (r : Record) (s : State) : (forwardRecord r s).line.strap = s.line.strap := by
  rcases forwardRecord_cases r s with ⟨_, h⟩ | ⟨_, h⟩ <;> simp [h]
@[simp] theorem forwardRecord_line_replyReserved (r : Record) (s : State) : (forwardRecord r s).line.replyReserved = s.line.replyReserved := by
  rcases forwardRecord_cases r s with ⟨_, h⟩ | ⟨_, h⟩ <;> simp [h]
@[simp] theorem forwardRecord_line_burst (r : Record) (s : State) : (forwardRecord r s).line.burst = s.line.burst := by
  rcases forwardRecord_cases r s with ⟨_, h⟩ | ⟨_, h⟩ <;> simp [h]
@[simp] theorem forwardRecord_line_sending (r : Record) (s : State) : (forwardRecord r s).line.sending = s.line.sending := by
  rcases forwardRecord_cases r s with ⟨_, h⟩ | ⟨_, h⟩ <;> simp [h]
@[simp] theorem forwardRecord_tracker (r : Record) (s : State) : (forwardRecord r s).tracker = s.tracker := by
  rcases forwardRecord_cases r s with ⟨_, h⟩ | ⟨_, h⟩ <;> simp [h]
@[simp] theorem forwardRecord_density (r : Record) (s : State) : (forwardRecord r s).density = s.density := by
  rcases forwardRecord_cases r s with ⟨_, h⟩ | ⟨_, h⟩ <;> simp [h]
@[simp] theorem forwardRecord_list (r : Record) (s : State) : (forwardRecord r s).list = s.list := by
  rcases forwardRecord_cases r s with ⟨_, h⟩ | ⟨_, h⟩ <;> simp [h]
@[simp] theorem forwardRecord_matching (r : Record) (s : State) : (forwardRecord r s).matching = s.matching := by
  rcases forwardRecord_cases r s with ⟨_, h⟩ | ⟨_, h⟩ <;> simp [h]
@[simp] theorem forwardRecord_composer (r : Record) (s : State) : (forwardRecord r s).composer = s.composer := by
  rcases forwardRecord_cases r s with ⟨_, h⟩ | ⟨_, h⟩ <;> simp [h]
@[simp] theorem forwardRecord_output (r : Record) (s : State) : (forwardRecord r s).output = s.output := by
  rcases forwardRecord_cases r s with ⟨_, h⟩ | ⟨_, h⟩ <;> simp [h]
@[simp] theorem forwardRecord_command_settings (r : Record) (s : State) : (forwardRecord r s).command.settings = s.command.settings := by
  rcases forwardRecord_cases r s with ⟨_, h⟩ | ⟨_, h⟩ <;> simp [h]
@[simp] theorem forwardRecord_command_mask (r : Record) (s : State) : (forwardRecord r s).command.mask = s.command.mask := by
  rcases forwardRecord_cases r s with ⟨_, h⟩ | ⟨_, h⟩ <;> simp [h]
@[simp] theorem forwardRecord_openChoices (r : Record) (s : State) : (forwardRecord r s).openChoices = s.openChoices := by
  rcases forwardRecord_cases r s with ⟨_, h⟩ | ⟨_, h⟩ <;> simp [h]
@[simp] theorem forwardRecord_pending (r : Record) (s : State) : (forwardRecord r s).pending = s.pending := by
  rcases forwardRecord_cases r s with ⟨_, h⟩ | ⟨_, h⟩ <;> simp [h]

end Sys2Proof.Machine
end

