-- ==== Sys2Proof/Laws/Output.lean ====
section
/-! SUPPORT. Frames of release and of the output controller's operations, and what a release does. -/

namespace Sys2Proof.Machine

@[simp] theorem emitSlot_signals (slot : Slot) (s : State) : (emitSlot slot s).signals = s.signals := by
  simp [emitSlot]
@[simp] theorem emitSlot_line_mode (slot : Slot) (s : State) : (emitSlot slot s).line.mode = s.line.mode := by
  simp [emitSlot]
@[simp] theorem emitSlot_line_path (slot : Slot) (s : State) : (emitSlot slot s).line.path = s.line.path := by
  simp [emitSlot]
@[simp] theorem emitSlot_line_alignment (slot : Slot) (s : State) : (emitSlot slot s).line.alignment = s.line.alignment := by
  simp [emitSlot]
@[simp] theorem emitSlot_line_goodRun (slot : Slot) (s : State) : (emitSlot slot s).line.goodRun = s.line.goodRun := by
  simp [emitSlot]
@[simp] theorem emitSlot_line_badRun (slot : Slot) (s : State) : (emitSlot slot s).line.badRun = s.line.badRun := by
  simp [emitSlot]
@[simp] theorem emitSlot_line_position (slot : Slot) (s : State) : (emitSlot slot s).line.position = s.line.position := by
  simp [emitSlot]
@[simp] theorem emitSlot_line_strap (slot : Slot) (s : State) : (emitSlot slot s).line.strap = s.line.strap := by
  simp [emitSlot]
@[simp] theorem emitSlot_line_forward (slot : Slot) (s : State) : (emitSlot slot s).line.forward = s.line.forward := by
  simp [emitSlot]
@[simp] theorem emitSlot_line_replyReserved (slot : Slot) (s : State) : (emitSlot slot s).line.replyReserved = s.line.replyReserved := by
  simp [emitSlot]
@[simp] theorem emitSlot_line_burst (slot : Slot) (s : State) : (emitSlot slot s).line.burst = s.line.burst := by
  simp [emitSlot]
@[simp] theorem emitSlot_line_sending (slot : Slot) (s : State) : (emitSlot slot s).line.sending = s.line.sending := by
  simp [emitSlot]
@[simp] theorem emitSlot_tracker (slot : Slot) (s : State) : (emitSlot slot s).tracker = s.tracker := by
  simp [emitSlot]
@[simp] theorem emitSlot_density (slot : Slot) (s : State) : (emitSlot slot s).density = s.density := by
  simp [emitSlot]
@[simp] theorem emitSlot_list (slot : Slot) (s : State) : (emitSlot slot s).list = s.list := by
  simp [emitSlot]
@[simp] theorem emitSlot_matching (slot : Slot) (s : State) : (emitSlot slot s).matching = s.matching := by
  simp [emitSlot]
@[simp] theorem emitSlot_composer (slot : Slot) (s : State) : (emitSlot slot s).composer = s.composer := by
  simp [emitSlot]
@[simp] theorem emitSlot_output_inFlight (slot : Slot) (s : State) : (emitSlot slot s).output.inFlight = s.output.inFlight := by
  simp [emitSlot]
@[simp] theorem emitSlot_output_jam (slot : Slot) (s : State) : (emitSlot slot s).output.jam = s.output.jam := by
  simp [emitSlot]
@[simp] theorem emitSlot_output_held (slot : Slot) (s : State) : (emitSlot slot s).output.held = s.output.held := by
  simp [emitSlot]
@[simp] theorem emitSlot_command_settings (slot : Slot) (s : State) : (emitSlot slot s).command.settings = s.command.settings := by
  simp [emitSlot]
@[simp] theorem emitSlot_command_latched (slot : Slot) (s : State) : (emitSlot slot s).command.latched = s.command.latched := by
  simp [emitSlot]
@[simp] theorem emitSlot_command_mask (slot : Slot) (s : State) : (emitSlot slot s).command.mask = s.command.mask := by
  simp [emitSlot]
@[simp] theorem emitSlot_command_arming (slot : Slot) (s : State) : (emitSlot slot s).command.arming = s.command.arming := by
  simp [emitSlot]
@[simp] theorem emitSlot_openChoices (slot : Slot) (s : State) : (emitSlot slot s).openChoices = s.openChoices := by
  simp [emitSlot]
@[simp] theorem emitSlot_pending (slot : Slot) (s : State) : (emitSlot slot s).pending = s.pending := by
  simp [emitSlot]
@[simp] theorem emitSlot_output_queue (slot : Slot) (s : State) :
    (emitSlot slot s).output.queue =
      s.output.queue ++ [render s.command.settings s.composer s.output.nextSeq slot] := by
  simp [emitSlot]
@[simp] theorem emitSlot_output_nextSeq (slot : Slot) (s : State) :
    (emitSlot slot s).output.nextSeq = (s.output.nextSeq + 1) % 65536 := by
  simp [emitSlot]

/-- A release takes the head of the hold queue when it is releasable and the output queue has room (R91). -/
theorem releaseHead_some (s t : State) (h : releaseHead s = some t) :
    ∃ slot rest, s.matching.hold = slot :: rest ∧ isReleasable s.matching slot = true ∧ s.output.queue.length < 24 ∧
      t = emitSlot slot { s with matching.hold := rest } := by
  unfold releaseHead at h
  split at h
  · cases h
  · rename_i slot rest hold
    split at h
    · rename_i cond
      simp only [Bool.and_eq_true] at cond
      exact ⟨slot, rest, hold, cond.1, of_decide_eq_true cond.2, (Option.some.inj h).symm⟩
    · cases h

@[simp] theorem releaseUpTo_signals (fuel : Nat) (s : State) : (releaseUpTo fuel s).signals = s.signals := by
  induction fuel generalizing s with
  | zero => rfl
  | succ n ih =>
    unfold releaseUpTo
    split
    · rfl
    · rename_i t ht
      obtain ⟨_, _, _, _, _, rfl⟩ := releaseHead_some s t ht
      simp [ih]
@[simp] theorem release_signals (s : State) : (release s).signals = s.signals := releaseUpTo_signals _ s
@[simp] theorem releaseUpTo_line_mode (fuel : Nat) (s : State) : (releaseUpTo fuel s).line.mode = s.line.mode := by
  induction fuel generalizing s with
  | zero => rfl
  | succ n ih =>
    unfold releaseUpTo
    split
    · rfl
    · rename_i t ht
      obtain ⟨_, _, _, _, _, rfl⟩ := releaseHead_some s t ht
      simp [ih]
@[simp] theorem release_line_mode (s : State) : (release s).line.mode = s.line.mode := releaseUpTo_line_mode _ s
@[simp] theorem releaseUpTo_line_path (fuel : Nat) (s : State) : (releaseUpTo fuel s).line.path = s.line.path := by
  induction fuel generalizing s with
  | zero => rfl
  | succ n ih =>
    unfold releaseUpTo
    split
    · rfl
    · rename_i t ht
      obtain ⟨_, _, _, _, _, rfl⟩ := releaseHead_some s t ht
      simp [ih]
@[simp] theorem release_line_path (s : State) : (release s).line.path = s.line.path := releaseUpTo_line_path _ s
@[simp] theorem releaseUpTo_line_alignment (fuel : Nat) (s : State) : (releaseUpTo fuel s).line.alignment = s.line.alignment := by
  induction fuel generalizing s with
  | zero => rfl
  | succ n ih =>
    unfold releaseUpTo
    split
    · rfl
    · rename_i t ht
      obtain ⟨_, _, _, _, _, rfl⟩ := releaseHead_some s t ht
      simp [ih]
@[simp] theorem release_line_alignment (s : State) : (release s).line.alignment = s.line.alignment := releaseUpTo_line_alignment _ s
@[simp] theorem releaseUpTo_line_goodRun (fuel : Nat) (s : State) : (releaseUpTo fuel s).line.goodRun = s.line.goodRun := by
  induction fuel generalizing s with
  | zero => rfl
  | succ n ih =>
    unfold releaseUpTo
    split
    · rfl
    · rename_i t ht
      obtain ⟨_, _, _, _, _, rfl⟩ := releaseHead_some s t ht
      simp [ih]
@[simp] theorem release_line_goodRun (s : State) : (release s).line.goodRun = s.line.goodRun := releaseUpTo_line_goodRun _ s
@[simp] theorem releaseUpTo_line_badRun (fuel : Nat) (s : State) : (releaseUpTo fuel s).line.badRun = s.line.badRun := by
  induction fuel generalizing s with
  | zero => rfl
  | succ n ih =>
    unfold releaseUpTo
    split
    · rfl
    · rename_i t ht
      obtain ⟨_, _, _, _, _, rfl⟩ := releaseHead_some s t ht
      simp [ih]
@[simp] theorem release_line_badRun (s : State) : (release s).line.badRun = s.line.badRun := releaseUpTo_line_badRun _ s
@[simp] theorem releaseUpTo_line_position (fuel : Nat) (s : State) : (releaseUpTo fuel s).line.position = s.line.position := by
  induction fuel generalizing s with
  | zero => rfl
  | succ n ih =>
    unfold releaseUpTo
    split
    · rfl
    · rename_i t ht
      obtain ⟨_, _, _, _, _, rfl⟩ := releaseHead_some s t ht
      simp [ih]
@[simp] theorem release_line_position (s : State) : (release s).line.position = s.line.position := releaseUpTo_line_position _ s
@[simp] theorem releaseUpTo_line_strap (fuel : Nat) (s : State) : (releaseUpTo fuel s).line.strap = s.line.strap := by
  induction fuel generalizing s with
  | zero => rfl
  | succ n ih =>
    unfold releaseUpTo
    split
    · rfl
    · rename_i t ht
      obtain ⟨_, _, _, _, _, rfl⟩ := releaseHead_some s t ht
      simp [ih]
@[simp] theorem release_line_strap (s : State) : (release s).line.strap = s.line.strap := releaseUpTo_line_strap _ s
@[simp] theorem releaseUpTo_line_forward (fuel : Nat) (s : State) : (releaseUpTo fuel s).line.forward = s.line.forward := by
  induction fuel generalizing s with
  | zero => rfl
  | succ n ih =>
    unfold releaseUpTo
    split
    · rfl
    · rename_i t ht
      obtain ⟨_, _, _, _, _, rfl⟩ := releaseHead_some s t ht
      simp [ih]
@[simp] theorem release_line_forward (s : State) : (release s).line.forward = s.line.forward := releaseUpTo_line_forward _ s
@[simp] theorem releaseUpTo_line_replyReserved (fuel : Nat) (s : State) : (releaseUpTo fuel s).line.replyReserved = s.line.replyReserved := by
  induction fuel generalizing s with
  | zero => rfl
  | succ n ih =>
    unfold releaseUpTo
    split
    · rfl
    · rename_i t ht
      obtain ⟨_, _, _, _, _, rfl⟩ := releaseHead_some s t ht
      simp [ih]
@[simp] theorem release_line_replyReserved (s : State) : (release s).line.replyReserved = s.line.replyReserved := releaseUpTo_line_replyReserved _ s
@[simp] theorem releaseUpTo_line_burst (fuel : Nat) (s : State) : (releaseUpTo fuel s).line.burst = s.line.burst := by
  induction fuel generalizing s with
  | zero => rfl
  | succ n ih =>
    unfold releaseUpTo
    split
    · rfl
    · rename_i t ht
      obtain ⟨_, _, _, _, _, rfl⟩ := releaseHead_some s t ht
      simp [ih]
@[simp] theorem release_line_burst (s : State) : (release s).line.burst = s.line.burst := releaseUpTo_line_burst _ s
@[simp] theorem releaseUpTo_line_sending (fuel : Nat) (s : State) : (releaseUpTo fuel s).line.sending = s.line.sending := by
  induction fuel generalizing s with
  | zero => rfl
  | succ n ih =>
    unfold releaseUpTo
    split
    · rfl
    · rename_i t ht
      obtain ⟨_, _, _, _, _, rfl⟩ := releaseHead_some s t ht
      simp [ih]
@[simp] theorem release_line_sending (s : State) : (release s).line.sending = s.line.sending := releaseUpTo_line_sending _ s
@[simp] theorem releaseUpTo_tracker (fuel : Nat) (s : State) : (releaseUpTo fuel s).tracker = s.tracker := by
  induction fuel generalizing s with
  | zero => rfl
  | succ n ih =>
    unfold releaseUpTo
    split
    · rfl
    · rename_i t ht
      obtain ⟨_, _, _, _, _, rfl⟩ := releaseHead_some s t ht
      simp [ih]
@[simp] theorem release_tracker (s : State) : (release s).tracker = s.tracker := releaseUpTo_tracker _ s
@[simp] theorem releaseUpTo_density (fuel : Nat) (s : State) : (releaseUpTo fuel s).density = s.density := by
  induction fuel generalizing s with
  | zero => rfl
  | succ n ih =>
    unfold releaseUpTo
    split
    · rfl
    · rename_i t ht
      obtain ⟨_, _, _, _, _, rfl⟩ := releaseHead_some s t ht
      simp [ih]
@[simp] theorem release_density (s : State) : (release s).density = s.density := releaseUpTo_density _ s
@[simp] theorem releaseUpTo_list (fuel : Nat) (s : State) : (releaseUpTo fuel s).list = s.list := by
  induction fuel generalizing s with
  | zero => rfl
  | succ n ih =>
    unfold releaseUpTo
    split
    · rfl
    · rename_i t ht
      obtain ⟨_, _, _, _, _, rfl⟩ := releaseHead_some s t ht
      simp [ih]
@[simp] theorem release_list (s : State) : (release s).list = s.list := releaseUpTo_list _ s
@[simp] theorem releaseUpTo_matching_drawing (fuel : Nat) (s : State) : (releaseUpTo fuel s).matching.drawing = s.matching.drawing := by
  induction fuel generalizing s with
  | zero => rfl
  | succ n ih =>
    unfold releaseUpTo
    split
    · rfl
    · rename_i t ht
      obtain ⟨_, _, _, _, _, rfl⟩ := releaseHead_some s t ht
      simp [ih]
@[simp] theorem release_matching_drawing (s : State) : (release s).matching.drawing = s.matching.drawing := releaseUpTo_matching_drawing _ s
@[simp] theorem releaseUpTo_matching_recent (fuel : Nat) (s : State) : (releaseUpTo fuel s).matching.recent = s.matching.recent := by
  induction fuel generalizing s with
  | zero => rfl
  | succ n ih =>
    unfold releaseUpTo
    split
    · rfl
    · rename_i t ht
      obtain ⟨_, _, _, _, _, rfl⟩ := releaseHead_some s t ht
      simp [ih]
@[simp] theorem release_matching_recent (s : State) : (release s).matching.recent = s.matching.recent := releaseUpTo_matching_recent _ s
@[simp] theorem releaseUpTo_matching_serial (fuel : Nat) (s : State) : (releaseUpTo fuel s).matching.serial = s.matching.serial := by
  induction fuel generalizing s with
  | zero => rfl
  | succ n ih =>
    unfold releaseUpTo
    split
    · rfl
    · rename_i t ht
      obtain ⟨_, _, _, _, _, rfl⟩ := releaseHead_some s t ht
      simp [ih]
@[simp] theorem release_matching_serial (s : State) : (release s).matching.serial = s.matching.serial := releaseUpTo_matching_serial _ s
@[simp] theorem releaseUpTo_matching_flushTimer (fuel : Nat) (s : State) : (releaseUpTo fuel s).matching.flushTimer = s.matching.flushTimer := by
  induction fuel generalizing s with
  | zero => rfl
  | succ n ih =>
    unfold releaseUpTo
    split
    · rfl
    · rename_i t ht
      obtain ⟨_, _, _, _, _, rfl⟩ := releaseHead_some s t ht
      simp [ih]
@[simp] theorem release_matching_flushTimer (s : State) : (release s).matching.flushTimer = s.matching.flushTimer := releaseUpTo_matching_flushTimer _ s
@[simp] theorem releaseUpTo_composer (fuel : Nat) (s : State) : (releaseUpTo fuel s).composer = s.composer := by
  induction fuel generalizing s with
  | zero => rfl
  | succ n ih =>
    unfold releaseUpTo
    split
    · rfl
    · rename_i t ht
      obtain ⟨_, _, _, _, _, rfl⟩ := releaseHead_some s t ht
      simp [ih]
@[simp] theorem release_composer (s : State) : (release s).composer = s.composer := releaseUpTo_composer _ s
@[simp] theorem releaseUpTo_output_inFlight (fuel : Nat) (s : State) : (releaseUpTo fuel s).output.inFlight = s.output.inFlight := by
  induction fuel generalizing s with
  | zero => rfl
  | succ n ih =>
    unfold releaseUpTo
    split
    · rfl
    · rename_i t ht
      obtain ⟨_, _, _, _, _, rfl⟩ := releaseHead_some s t ht
      simp [ih]
@[simp] theorem release_output_inFlight (s : State) : (release s).output.inFlight = s.output.inFlight := releaseUpTo_output_inFlight _ s
@[simp] theorem releaseUpTo_output_jam (fuel : Nat) (s : State) : (releaseUpTo fuel s).output.jam = s.output.jam := by
  induction fuel generalizing s with
  | zero => rfl
  | succ n ih =>
    unfold releaseUpTo
    split
    · rfl
    · rename_i t ht
      obtain ⟨_, _, _, _, _, rfl⟩ := releaseHead_some s t ht
      simp [ih]
@[simp] theorem release_output_jam (s : State) : (release s).output.jam = s.output.jam := releaseUpTo_output_jam _ s
@[simp] theorem releaseUpTo_output_held (fuel : Nat) (s : State) : (releaseUpTo fuel s).output.held = s.output.held := by
  induction fuel generalizing s with
  | zero => rfl
  | succ n ih =>
    unfold releaseUpTo
    split
    · rfl
    · rename_i t ht
      obtain ⟨_, _, _, _, _, rfl⟩ := releaseHead_some s t ht
      simp [ih]
@[simp] theorem release_output_held (s : State) : (release s).output.held = s.output.held := releaseUpTo_output_held _ s
@[simp] theorem releaseUpTo_command_settings (fuel : Nat) (s : State) : (releaseUpTo fuel s).command.settings = s.command.settings := by
  induction fuel generalizing s with
  | zero => rfl
  | succ n ih =>
    unfold releaseUpTo
    split
    · rfl
    · rename_i t ht
      obtain ⟨_, _, _, _, _, rfl⟩ := releaseHead_some s t ht
      simp [ih]
@[simp] theorem release_command_settings (s : State) : (release s).command.settings = s.command.settings := releaseUpTo_command_settings _ s
@[simp] theorem releaseUpTo_command_latched (fuel : Nat) (s : State) : (releaseUpTo fuel s).command.latched = s.command.latched := by
  induction fuel generalizing s with
  | zero => rfl
  | succ n ih =>
    unfold releaseUpTo
    split
    · rfl
    · rename_i t ht
      obtain ⟨_, _, _, _, _, rfl⟩ := releaseHead_some s t ht
      simp [ih]
@[simp] theorem release_command_latched (s : State) : (release s).command.latched = s.command.latched := releaseUpTo_command_latched _ s
@[simp] theorem releaseUpTo_command_mask (fuel : Nat) (s : State) : (releaseUpTo fuel s).command.mask = s.command.mask := by
  induction fuel generalizing s with
  | zero => rfl
  | succ n ih =>
    unfold releaseUpTo
    split
    · rfl
    · rename_i t ht
      obtain ⟨_, _, _, _, _, rfl⟩ := releaseHead_some s t ht
      simp [ih]
@[simp] theorem release_command_mask (s : State) : (release s).command.mask = s.command.mask := releaseUpTo_command_mask _ s
@[simp] theorem releaseUpTo_command_arming (fuel : Nat) (s : State) : (releaseUpTo fuel s).command.arming = s.command.arming := by
  induction fuel generalizing s with
  | zero => rfl
  | succ n ih =>
    unfold releaseUpTo
    split
    · rfl
    · rename_i t ht
      obtain ⟨_, _, _, _, _, rfl⟩ := releaseHead_some s t ht
      simp [ih]
@[simp] theorem release_command_arming (s : State) : (release s).command.arming = s.command.arming := releaseUpTo_command_arming _ s
@[simp] theorem releaseUpTo_openChoices (fuel : Nat) (s : State) : (releaseUpTo fuel s).openChoices = s.openChoices := by
  induction fuel generalizing s with
  | zero => rfl
  | succ n ih =>
    unfold releaseUpTo
    split
    · rfl
    · rename_i t ht
      obtain ⟨_, _, _, _, _, rfl⟩ := releaseHead_some s t ht
      simp [ih]
@[simp] theorem release_openChoices (s : State) : (release s).openChoices = s.openChoices := releaseUpTo_openChoices _ s
@[simp] theorem releaseUpTo_pending (fuel : Nat) (s : State) : (releaseUpTo fuel s).pending = s.pending := by
  induction fuel generalizing s with
  | zero => rfl
  | succ n ih =>
    unfold releaseUpTo
    split
    · rfl
    · rename_i t ht
      obtain ⟨_, _, _, _, _, rfl⟩ := releaseHead_some s t ht
      simp [ih]
@[simp] theorem release_pending (s : State) : (release s).pending = s.pending := releaseUpTo_pending _ s

@[simp] theorem writeOff_signals (s : State) : (writeOff s).signals = s.signals := by
  simp [writeOff]
@[simp] theorem writeOff_line_mode (s : State) : (writeOff s).line.mode = s.line.mode := by
  simp [writeOff]
@[simp] theorem writeOff_line_path (s : State) : (writeOff s).line.path = s.line.path := by
  simp [writeOff]
@[simp] theorem writeOff_line_alignment (s : State) : (writeOff s).line.alignment = s.line.alignment := by
  simp [writeOff]
@[simp] theorem writeOff_line_goodRun (s : State) : (writeOff s).line.goodRun = s.line.goodRun := by
  simp [writeOff]
@[simp] theorem writeOff_line_badRun (s : State) : (writeOff s).line.badRun = s.line.badRun := by
  simp [writeOff]
@[simp] theorem writeOff_line_position (s : State) : (writeOff s).line.position = s.line.position := by
  simp [writeOff]
@[simp] theorem writeOff_line_strap (s : State) : (writeOff s).line.strap = s.line.strap := by
  simp [writeOff]
@[simp] theorem writeOff_line_forward (s : State) : (writeOff s).line.forward = s.line.forward := by
  simp [writeOff]
@[simp] theorem writeOff_line_replyReserved (s : State) : (writeOff s).line.replyReserved = s.line.replyReserved := by
  simp [writeOff]
@[simp] theorem writeOff_line_burst (s : State) : (writeOff s).line.burst = s.line.burst := by
  simp [writeOff]
@[simp] theorem writeOff_line_sending (s : State) : (writeOff s).line.sending = s.line.sending := by
  simp [writeOff]
@[simp] theorem writeOff_tracker (s : State) : (writeOff s).tracker = s.tracker := by
  simp [writeOff]
@[simp] theorem writeOff_density (s : State) : (writeOff s).density = s.density := by
  simp [writeOff]
@[simp] theorem writeOff_list (s : State) : (writeOff s).list = s.list := by
  simp [writeOff]
@[simp] theorem writeOff_matching (s : State) : (writeOff s).matching = s.matching := by
  simp [writeOff]
@[simp] theorem writeOff_composer (s : State) : (writeOff s).composer = s.composer := by
  simp [writeOff]
@[simp] theorem writeOff_output (s : State) : (writeOff s).output = s.output := by
  simp [writeOff]
@[simp] theorem writeOff_command_settings (s : State) : (writeOff s).command.settings = s.command.settings := by
  simp [writeOff]
@[simp] theorem writeOff_command_mask (s : State) : (writeOff s).command.mask = s.command.mask := by
  simp [writeOff]
@[simp] theorem writeOff_openChoices (s : State) : (writeOff s).openChoices = s.openChoices := by
  simp [writeOff]
@[simp] theorem writeOff_pending (s : State) : (writeOff s).pending = s.pending := by
  simp [writeOff]
@[simp] theorem writeOffEach_signals (es : List InFlight) (s : State) : (writeOffEach es s).signals = s.signals := by
  induction es generalizing s with
  | nil => rfl
  | cons e es ih => simp [writeOffEach, ih]
@[simp] theorem writeOffEach_line_mode (es : List InFlight) (s : State) : (writeOffEach es s).line.mode = s.line.mode := by
  induction es generalizing s with
  | nil => rfl
  | cons e es ih => simp [writeOffEach, ih]
@[simp] theorem writeOffEach_line_path (es : List InFlight) (s : State) : (writeOffEach es s).line.path = s.line.path := by
  induction es generalizing s with
  | nil => rfl
  | cons e es ih => simp [writeOffEach, ih]
@[simp] theorem writeOffEach_line_alignment (es : List InFlight) (s : State) : (writeOffEach es s).line.alignment = s.line.alignment := by
  induction es generalizing s with
  | nil => rfl
  | cons e es ih => simp [writeOffEach, ih]
@[simp] theorem writeOffEach_line_goodRun (es : List InFlight) (s : State) : (writeOffEach es s).line.goodRun = s.line.goodRun := by
  induction es generalizing s with
  | nil => rfl
  | cons e es ih => simp [writeOffEach, ih]
@[simp] theorem writeOffEach_line_badRun (es : List InFlight) (s : State) : (writeOffEach es s).line.badRun = s.line.badRun := by
  induction es generalizing s with
  | nil => rfl
  | cons e es ih => simp [writeOffEach, ih]
@[simp] theorem writeOffEach_line_position (es : List InFlight) (s : State) : (writeOffEach es s).line.position = s.line.position := by
  induction es generalizing s with
  | nil => rfl
  | cons e es ih => simp [writeOffEach, ih]
@[simp] theorem writeOffEach_line_strap (es : List InFlight) (s : State) : (writeOffEach es s).line.strap = s.line.strap := by
  induction es generalizing s with
  | nil => rfl
  | cons e es ih => simp [writeOffEach, ih]
@[simp] theorem writeOffEach_line_forward (es : List InFlight) (s : State) : (writeOffEach es s).line.forward = s.line.forward := by
  induction es generalizing s with
  | nil => rfl
  | cons e es ih => simp [writeOffEach, ih]
@[simp] theorem writeOffEach_line_replyReserved (es : List InFlight) (s : State) : (writeOffEach es s).line.replyReserved = s.line.replyReserved := by
  induction es generalizing s with
  | nil => rfl
  | cons e es ih => simp [writeOffEach, ih]
@[simp] theorem writeOffEach_line_burst (es : List InFlight) (s : State) : (writeOffEach es s).line.burst = s.line.burst := by
  induction es generalizing s with
  | nil => rfl
  | cons e es ih => simp [writeOffEach, ih]
@[simp] theorem writeOffEach_line_sending (es : List InFlight) (s : State) : (writeOffEach es s).line.sending = s.line.sending := by
  induction es generalizing s with
  | nil => rfl
  | cons e es ih => simp [writeOffEach, ih]
@[simp] theorem writeOffEach_tracker (es : List InFlight) (s : State) : (writeOffEach es s).tracker = s.tracker := by
  induction es generalizing s with
  | nil => rfl
  | cons e es ih => simp [writeOffEach, ih]
@[simp] theorem writeOffEach_density (es : List InFlight) (s : State) : (writeOffEach es s).density = s.density := by
  induction es generalizing s with
  | nil => rfl
  | cons e es ih => simp [writeOffEach, ih]
@[simp] theorem writeOffEach_list (es : List InFlight) (s : State) : (writeOffEach es s).list = s.list := by
  induction es generalizing s with
  | nil => rfl
  | cons e es ih => simp [writeOffEach, ih]
@[simp] theorem writeOffEach_matching (es : List InFlight) (s : State) : (writeOffEach es s).matching = s.matching := by
  induction es generalizing s with
  | nil => rfl
  | cons e es ih => simp [writeOffEach, ih]
@[simp] theorem writeOffEach_composer (es : List InFlight) (s : State) : (writeOffEach es s).composer = s.composer := by
  induction es generalizing s with
  | nil => rfl
  | cons e es ih => simp [writeOffEach, ih]
@[simp] theorem writeOffEach_output (es : List InFlight) (s : State) : (writeOffEach es s).output = s.output := by
  induction es generalizing s with
  | nil => rfl
  | cons e es ih => simp [writeOffEach, ih]
@[simp] theorem writeOffEach_command_settings (es : List InFlight) (s : State) : (writeOffEach es s).command.settings = s.command.settings := by
  induction es generalizing s with
  | nil => rfl
  | cons e es ih => simp [writeOffEach, ih]
@[simp] theorem writeOffEach_command_mask (es : List InFlight) (s : State) : (writeOffEach es s).command.mask = s.command.mask := by
  induction es generalizing s with
  | nil => rfl
  | cons e es ih => simp [writeOffEach, ih]
@[simp] theorem writeOffEach_openChoices (es : List InFlight) (s : State) : (writeOffEach es s).openChoices = s.openChoices := by
  induction es generalizing s with
  | nil => rfl
  | cons e es ih => simp [writeOffEach, ih]
@[simp] theorem writeOffEach_pending (es : List InFlight) (s : State) : (writeOffEach es s).pending = s.pending := by
  induction es generalizing s with
  | nil => rfl
  | cons e es ih => simp [writeOffEach, ih]
@[simp] theorem strayDone_signals (s : State) : (strayDone s).signals = s.signals := by
  simp [strayDone]
@[simp] theorem strayDone_line_mode (s : State) : (strayDone s).line.mode = s.line.mode := by
  simp [strayDone]
@[simp] theorem strayDone_line_path (s : State) : (strayDone s).line.path = s.line.path := by
  simp [strayDone]
@[simp] theorem strayDone_line_alignment (s : State) : (strayDone s).line.alignment = s.line.alignment := by
  simp [strayDone]
@[simp] theorem strayDone_line_goodRun (s : State) : (strayDone s).line.goodRun = s.line.goodRun := by
  simp [strayDone]
@[simp] theorem strayDone_line_badRun (s : State) : (strayDone s).line.badRun = s.line.badRun := by
  simp [strayDone]
@[simp] theorem strayDone_line_position (s : State) : (strayDone s).line.position = s.line.position := by
  simp [strayDone]
@[simp] theorem strayDone_line_strap (s : State) : (strayDone s).line.strap = s.line.strap := by
  simp [strayDone]
@[simp] theorem strayDone_line_forward (s : State) : (strayDone s).line.forward = s.line.forward := by
  simp [strayDone]
@[simp] theorem strayDone_line_replyReserved (s : State) : (strayDone s).line.replyReserved = s.line.replyReserved := by
  simp [strayDone]
@[simp] theorem strayDone_line_burst (s : State) : (strayDone s).line.burst = s.line.burst := by
  simp [strayDone]
@[simp] theorem strayDone_line_sending (s : State) : (strayDone s).line.sending = s.line.sending := by
  simp [strayDone]
@[simp] theorem strayDone_tracker (s : State) : (strayDone s).tracker = s.tracker := by
  simp [strayDone]
@[simp] theorem strayDone_density (s : State) : (strayDone s).density = s.density := by
  simp [strayDone]
@[simp] theorem strayDone_list (s : State) : (strayDone s).list = s.list := by
  simp [strayDone]
@[simp] theorem strayDone_matching (s : State) : (strayDone s).matching = s.matching := by
  simp [strayDone]
@[simp] theorem strayDone_composer (s : State) : (strayDone s).composer = s.composer := by
  simp [strayDone]
@[simp] theorem strayDone_output (s : State) : (strayDone s).output = s.output := by
  simp [strayDone]
@[simp] theorem strayDone_command_settings (s : State) : (strayDone s).command.settings = s.command.settings := by
  simp [strayDone]
@[simp] theorem strayDone_command_mask (s : State) : (strayDone s).command.mask = s.command.mask := by
  simp [strayDone]
@[simp] theorem strayDone_openChoices (s : State) : (strayDone s).openChoices = s.openChoices := by
  simp [strayDone]
@[simp] theorem strayDone_pending (s : State) : (strayDone s).pending = s.pending := by
  simp [strayDone]
@[simp] theorem endHold_signals (s : State) : (endHold s).signals = s.signals := by
  simp [endHold]
@[simp] theorem endHold_line_mode (s : State) : (endHold s).line.mode = s.line.mode := by
  simp [endHold]
@[simp] theorem endHold_line_path (s : State) : (endHold s).line.path = s.line.path := by
  simp [endHold]
@[simp] theorem endHold_line_alignment (s : State) : (endHold s).line.alignment = s.line.alignment := by
  simp [endHold]
@[simp] theorem endHold_line_goodRun (s : State) : (endHold s).line.goodRun = s.line.goodRun := by
  simp [endHold]
@[simp] theorem endHold_line_badRun (s : State) : (endHold s).line.badRun = s.line.badRun := by
  simp [endHold]
@[simp] theorem endHold_line_position (s : State) : (endHold s).line.position = s.line.position := by
  simp [endHold]
@[simp] theorem endHold_line_strap (s : State) : (endHold s).line.strap = s.line.strap := by
  simp [endHold]
@[simp] theorem endHold_line_forward (s : State) : (endHold s).line.forward = s.line.forward := by
  simp [endHold]
@[simp] theorem endHold_line_replyReserved (s : State) : (endHold s).line.replyReserved = s.line.replyReserved := by
  simp [endHold]
@[simp] theorem endHold_line_burst (s : State) : (endHold s).line.burst = s.line.burst := by
  simp [endHold]
@[simp] theorem endHold_line_sending (s : State) : (endHold s).line.sending = s.line.sending := by
  simp [endHold]
@[simp] theorem endHold_tracker (s : State) : (endHold s).tracker = s.tracker := by
  simp [endHold]
@[simp] theorem endHold_density (s : State) : (endHold s).density = s.density := by
  simp [endHold]
@[simp] theorem endHold_list (s : State) : (endHold s).list = s.list := by
  simp [endHold]
@[simp] theorem endHold_matching (s : State) : (endHold s).matching = s.matching := by
  simp [endHold]
@[simp] theorem endHold_composer (s : State) : (endHold s).composer = s.composer := by
  simp [endHold]
@[simp] theorem endHold_output_queue (s : State) : (endHold s).output.queue = s.output.queue := by
  simp [endHold]
@[simp] theorem endHold_output_nextSeq (s : State) : (endHold s).output.nextSeq = s.output.nextSeq := by
  simp [endHold]
@[simp] theorem endHold_output_inFlight (s : State) : (endHold s).output.inFlight = s.output.inFlight := by
  simp [endHold]
@[simp] theorem endHold_command (s : State) : (endHold s).command = s.command := by
  simp [endHold]
@[simp] theorem endHold_openChoices (s : State) : (endHold s).openChoices = s.openChoices := by
  simp [endHold]
@[simp] theorem endHold_pending (s : State) : (endHold s).pending = s.pending := by
  simp [endHold]
@[simp] theorem endHold_output_jam (s : State) : (endHold s).output.jam = none := by simp [endHold]
@[simp] theorem endHold_output_held (s : State) : (endHold s).output.held = false := by simp [endHold]

end Sys2Proof.Machine
end

