-- ==== Sys2Proof/Laws/LinePort.lean ====
section
/-! SUPPORT. What the arbiter's choice can do, that it is made once, and its frame. -/

namespace Sys2Proof.Machine

/-- Everything a choice can do: nothing, or send the control queue's head, a sendable instruction, or the forward queue's head. -/
theorem choose_cases (s : State) :
    choose s = s ∨
    s.line.path = .stored ∧ s.line.sending = none ∧
      ((∃ c rest, s.line.control = c :: rest ∧
          choose s = startSending false c.record { s with line.control := rest }) ∨
       (∃ i rest, s.line.control = [] ∧ s.output.queue = i :: rest ∧ maySend s = true ∧
          (s.line.forward = [] ∨ s.line.burst < s.command.settings.burstLimit) ∧ choose s = sendInstruction i rest s) ∨
       (∃ r rest, s.line.control = [] ∧ s.line.forward = r :: rest ∧
          (s.output.queue = [] ∨ maySend s = false ∨ s.command.settings.burstLimit ≤ s.line.burst) ∧
          choose s = sendForwarded r s)) := by
  by_cases h : s.line.path = .stored ∧ s.line.sending = none
  · simp only [choose, h, and_self, if_true, true_and]
    rcases hc : s.line.control with _ | ⟨c, rest⟩
    · simp only [chooseFlow]
      rcases hf : s.line.forward with _ | ⟨r, fs⟩ <;> rcases hq : s.output.queue with _ | ⟨i, q⟩ <;>
        by_cases hm : maySend s = true <;> by_cases hb : s.line.burst < s.command.settings.burstLimit <;>
        simp [hm, hb, Nat.le_of_not_lt]
    · exact .inr (.inl ⟨c, rest, rfl, rfl⟩)
  · exact .inl (by simp [choose, h])

theorem choose_of_busy {s : State} (h : s.line.sending ≠ none) : choose s = s := by simp [choose, h]

theorem choose_of_through {s : State} (h : s.line.path = .through) : choose s = s := by simp [choose, h]

@[simp] theorem sendInstruction_sending (i : Instruction) (rest : List Instruction) (s : State) :
    (sendInstruction i rest s).line.sending =
      some { forwarded := false, record := instructionRecord (originSource s.line) i } := by
  simp [sendInstruction, takeInstruction, startSending]

@[simp] theorem sendForwarded_sending (r : Record) (s : State) :
    (sendForwarded r s).line.sending = some { forwarded := true, record := r } := rfl

/-- One choice is enough: after it the port is busy, or nothing that waits may be sent. -/
@[simp] theorem choose_choose (s : State) : choose (choose s) = choose s := by
  rcases choose_cases s with h | ⟨-, -, ⟨c, rest, -, h⟩ | ⟨i, rest, -, -, -, -, h⟩ | ⟨r, rest, -, -, -, h⟩⟩
  · rw [h, h]
  all_goals exact choose_of_busy (by rw [h]; simp)

/-- A field that sending the head instruction leaves alone is one that a choice leaves alone, the control queue and the burst count
apart. -/
theorem choose_frame {α : Type} (f : State → α)
    (hi : ∀ i rest s, f (sendInstruction i rest s) = f s) (hr : ∀ r s, f (sendForwarded r s) = f s)
    (hc : ∀ r q s, f (startSending false r { s with line.control := q }) = f s) (s : State) : f (choose s) = f s := by
  rcases choose_cases s with h | ⟨-, -, ⟨c, rest, -, h⟩ | ⟨i, rest, -, -, -, -, h⟩ | ⟨r, rest, -, -, -, h⟩⟩ <;> rw [h]
  · exact hc ..
  · exact hi ..
  · exact hr ..

@[simp] theorem choose_signals (s : State) : (choose s).signals = s.signals :=
  choose_frame (fun t => t.signals) (fun _ _ _ => by simp [sendInstruction, takeInstruction]) (fun _ _ => rfl) (fun _ _ _ => rfl) s
@[simp] theorem choose_line_mode (s : State) : (choose s).line.mode = s.line.mode :=
  choose_frame (fun t => t.line.mode) (fun _ _ _ => by simp [sendInstruction, takeInstruction]) (fun _ _ => rfl) (fun _ _ _ => rfl) s
@[simp] theorem choose_line_path (s : State) : (choose s).line.path = s.line.path :=
  choose_frame (fun t => t.line.path) (fun _ _ _ => by simp [sendInstruction, takeInstruction]) (fun _ _ => rfl) (fun _ _ _ => rfl) s
@[simp] theorem choose_line_alignment (s : State) : (choose s).line.alignment = s.line.alignment :=
  choose_frame (fun t => t.line.alignment) (fun _ _ _ => by simp [sendInstruction, takeInstruction]) (fun _ _ => rfl) (fun _ _ _ => rfl) s
@[simp] theorem choose_line_goodRun (s : State) : (choose s).line.goodRun = s.line.goodRun :=
  choose_frame (fun t => t.line.goodRun) (fun _ _ _ => by simp [sendInstruction, takeInstruction]) (fun _ _ => rfl) (fun _ _ _ => rfl) s
@[simp] theorem choose_line_badRun (s : State) : (choose s).line.badRun = s.line.badRun :=
  choose_frame (fun t => t.line.badRun) (fun _ _ _ => by simp [sendInstruction, takeInstruction]) (fun _ _ => rfl) (fun _ _ _ => rfl) s
@[simp] theorem choose_line_position (s : State) : (choose s).line.position = s.line.position :=
  choose_frame (fun t => t.line.position) (fun _ _ _ => by simp [sendInstruction, takeInstruction]) (fun _ _ => rfl) (fun _ _ _ => rfl) s
@[simp] theorem choose_line_strap (s : State) : (choose s).line.strap = s.line.strap :=
  choose_frame (fun t => t.line.strap) (fun _ _ _ => by simp [sendInstruction, takeInstruction]) (fun _ _ => rfl) (fun _ _ _ => rfl) s
@[simp] theorem choose_line_forward (s : State) : (choose s).line.forward = s.line.forward :=
  choose_frame (fun t => t.line.forward) (fun _ _ _ => by simp [sendInstruction, takeInstruction]) (fun _ _ => rfl) (fun _ _ _ => rfl) s
@[simp] theorem choose_line_replyReserved (s : State) : (choose s).line.replyReserved = s.line.replyReserved :=
  choose_frame (fun t => t.line.replyReserved) (fun _ _ _ => by simp [sendInstruction, takeInstruction]) (fun _ _ => rfl) (fun _ _ _ => rfl) s
@[simp] theorem choose_tracker (s : State) : (choose s).tracker = s.tracker :=
  choose_frame (fun t => t.tracker) (fun _ _ _ => by simp [sendInstruction, takeInstruction]) (fun _ _ => rfl) (fun _ _ _ => rfl) s
@[simp] theorem choose_density (s : State) : (choose s).density = s.density :=
  choose_frame (fun t => t.density) (fun _ _ _ => by simp [sendInstruction, takeInstruction]) (fun _ _ => rfl) (fun _ _ _ => rfl) s
@[simp] theorem choose_list (s : State) : (choose s).list = s.list :=
  choose_frame (fun t => t.list) (fun _ _ _ => by simp [sendInstruction, takeInstruction]) (fun _ _ => rfl) (fun _ _ _ => rfl) s
@[simp] theorem choose_composer (s : State) : (choose s).composer = s.composer :=
  choose_frame (fun t => t.composer) (fun _ _ _ => by simp [sendInstruction, takeInstruction]) (fun _ _ => rfl) (fun _ _ _ => rfl) s
@[simp] theorem choose_command_settings (s : State) : (choose s).command.settings = s.command.settings :=
  choose_frame (fun t => t.command.settings) (fun _ _ _ => by simp [sendInstruction, takeInstruction]) (fun _ _ => rfl) (fun _ _ _ => rfl) s
@[simp] theorem choose_command_latched (s : State) : (choose s).command.latched = s.command.latched :=
  choose_frame (fun t => t.command.latched) (fun _ _ _ => by simp [sendInstruction, takeInstruction]) (fun _ _ => rfl) (fun _ _ _ => rfl) s
@[simp] theorem choose_command_mask (s : State) : (choose s).command.mask = s.command.mask :=
  choose_frame (fun t => t.command.mask) (fun _ _ _ => by simp [sendInstruction, takeInstruction]) (fun _ _ => rfl) (fun _ _ _ => rfl) s
@[simp] theorem choose_command_arming (s : State) : (choose s).command.arming = s.command.arming :=
  choose_frame (fun t => t.command.arming) (fun _ _ _ => by simp [sendInstruction, takeInstruction]) (fun _ _ => rfl) (fun _ _ _ => rfl) s
@[simp] theorem choose_openChoices (s : State) : (choose s).openChoices = s.openChoices :=
  choose_frame (fun t => t.openChoices) (fun _ _ _ => by simp [sendInstruction, takeInstruction]) (fun _ _ => rfl) (fun _ _ _ => rfl) s
@[simp] theorem choose_pending (s : State) : (choose s).pending = s.pending :=
  choose_frame (fun t => t.pending) (fun _ _ _ => by simp [sendInstruction, takeInstruction]) (fun _ _ => rfl) (fun _ _ _ => rfl) s
@[simp] theorem choose_matching_drawing (s : State) : (choose s).matching.drawing = s.matching.drawing :=
  choose_frame (fun t => t.matching.drawing) (fun _ _ _ => by simp [sendInstruction, takeInstruction]) (fun _ _ => rfl) (fun _ _ _ => rfl) s
@[simp] theorem choose_matching_recent (s : State) : (choose s).matching.recent = s.matching.recent :=
  choose_frame (fun t => t.matching.recent) (fun _ _ _ => by simp [sendInstruction, takeInstruction]) (fun _ _ => rfl) (fun _ _ _ => rfl) s
@[simp] theorem choose_matching_serial (s : State) : (choose s).matching.serial = s.matching.serial :=
  choose_frame (fun t => t.matching.serial) (fun _ _ _ => by simp [sendInstruction, takeInstruction]) (fun _ _ => rfl) (fun _ _ _ => rfl) s
@[simp] theorem choose_matching_flushTimer (s : State) : (choose s).matching.flushTimer = s.matching.flushTimer :=
  choose_frame (fun t => t.matching.flushTimer) (fun _ _ _ => by simp [sendInstruction, takeInstruction]) (fun _ _ => rfl) (fun _ _ _ => rfl) s
@[simp] theorem choose_output_jam (s : State) : (choose s).output.jam = s.output.jam :=
  choose_frame (fun t => t.output.jam) (fun _ _ _ => by simp [sendInstruction, takeInstruction]) (fun _ _ => rfl) (fun _ _ _ => rfl) s
@[simp] theorem choose_output_held (s : State) : (choose s).output.held = s.output.held :=
  choose_frame (fun t => t.output.held) (fun _ _ _ => by simp [sendInstruction, takeInstruction]) (fun _ _ => rfl) (fun _ _ _ => rfl) s

end Sys2Proof.Machine
end

