-- ==== Sys2Proof/Laws/Matching.lean ====
section
/-! SUPPORT. Frames of the matching engine: taking a frame touches neither the signals, the tracker, the density unit, the
composer nor the queue of commands; and what taking a frame can answer. -/

namespace Sys2Proof.Machine

@[simp] theorem listLowTest_signals (s : State) : (listLowTest s).signals = s.signals := by
  unfold listLowTest
  split <;> simp
@[simp] theorem listLowTest_tracker (s : State) : (listLowTest s).tracker = s.tracker := by
  unfold listLowTest
  split <;> simp
@[simp] theorem listLowTest_density (s : State) : (listLowTest s).density = s.density := by
  unfold listLowTest
  split <;> simp
@[simp] theorem listLowTest_composer (s : State) : (listLowTest s).composer = s.composer := by
  unfold listLowTest
  split <;> simp
@[simp] theorem listLowTest_openChoices (s : State) : (listLowTest s).openChoices = s.openChoices := by
  unfold listLowTest
  split <;> simp
@[simp] theorem listLowTest_pending (s : State) : (listLowTest s).pending = s.pending := by
  unfold listLowTest
  split <;> simp

@[simp] theorem closeBound_signals (d : Drawing) (e : Entry) (s : State) : (closeBound d e s).signals = s.signals := by
  unfold closeBound
  split <;> simp
@[simp] theorem closeBound_tracker (d : Drawing) (e : Entry) (s : State) : (closeBound d e s).tracker = s.tracker := by
  unfold closeBound
  split <;> simp
@[simp] theorem closeBound_density (d : Drawing) (e : Entry) (s : State) : (closeBound d e s).density = s.density := by
  unfold closeBound
  split <;> simp
@[simp] theorem closeBound_composer (d : Drawing) (e : Entry) (s : State) : (closeBound d e s).composer = s.composer := by
  unfold closeBound
  split <;> simp
@[simp] theorem closeBound_openChoices (d : Drawing) (e : Entry) (s : State) : (closeBound d e s).openChoices = s.openChoices := by
  unfold closeBound
  split <;> simp
@[simp] theorem closeBound_pending (d : Drawing) (e : Entry) (s : State) : (closeBound d e s).pending = s.pending := by
  unfold closeBound
  split <;> simp

@[simp] theorem closeUnbound_signals (d : Drawing) (s : State) : (closeUnbound d s).signals = s.signals := by
  simp [closeUnbound]
@[simp] theorem closeUnbound_tracker (d : Drawing) (s : State) : (closeUnbound d s).tracker = s.tracker := by
  simp [closeUnbound]
@[simp] theorem closeUnbound_density (d : Drawing) (s : State) : (closeUnbound d s).density = s.density := by
  simp [closeUnbound]
@[simp] theorem closeUnbound_composer (d : Drawing) (s : State) : (closeUnbound d s).composer = s.composer := by
  simp [closeUnbound]
@[simp] theorem closeUnbound_openChoices (d : Drawing) (s : State) : (closeUnbound d s).openChoices = s.openChoices := by
  simp [closeUnbound]
@[simp] theorem closeUnbound_pending (d : Drawing) (s : State) : (closeUnbound d s).pending = s.pending := by
  simp [closeUnbound]

@[simp] theorem closeDrawing_signals (s : State) : (closeDrawing s).signals = s.signals := by
  unfold closeDrawing
  split
  · rfl
  · dsimp only
    split <;> simp
@[simp] theorem closeDrawing_tracker (s : State) : (closeDrawing s).tracker = s.tracker := by
  unfold closeDrawing
  split
  · rfl
  · dsimp only
    split <;> simp
@[simp] theorem closeDrawing_density (s : State) : (closeDrawing s).density = s.density := by
  unfold closeDrawing
  split
  · rfl
  · dsimp only
    split <;> simp
@[simp] theorem closeDrawing_composer (s : State) : (closeDrawing s).composer = s.composer := by
  unfold closeDrawing
  split
  · rfl
  · dsimp only
    split <;> simp
@[simp] theorem closeDrawing_openChoices (s : State) : (closeDrawing s).openChoices = s.openChoices := by
  unfold closeDrawing
  split
  · rfl
  · dsimp only
    split <;> simp
@[simp] theorem closeDrawing_pending (s : State) : (closeDrawing s).pending = s.pending := by
  unfold closeDrawing
  split
  · rfl
  · dsimp only
    split <;> simp

/-- After a close no drawing is open (R72). -/
@[simp] theorem closeDrawing_matching_drawing (s : State) : (closeDrawing s).matching.drawing = none := by
  unfold closeDrawing
  split
  · assumption
  · rfl

@[simp] theorem closeAndRelease_signals (s : State) : (closeAndRelease s).signals = s.signals := by
  unfold closeAndRelease
  split <;> simp
@[simp] theorem closeAndRelease_tracker (s : State) : (closeAndRelease s).tracker = s.tracker := by
  unfold closeAndRelease
  split <;> simp
@[simp] theorem closeAndRelease_density (s : State) : (closeAndRelease s).density = s.density := by
  unfold closeAndRelease
  split <;> simp
@[simp] theorem closeAndRelease_composer (s : State) : (closeAndRelease s).composer = s.composer := by
  unfold closeAndRelease
  split <;> simp
@[simp] theorem closeAndRelease_openChoices (s : State) : (closeAndRelease s).openChoices = s.openChoices := by
  unfold closeAndRelease
  split <;> simp
@[simp] theorem closeAndRelease_pending (s : State) : (closeAndRelease s).pending = s.pending := by
  unfold closeAndRelease
  split <;> simp

/-- After a close and the release that follows it no drawing is open (R85). -/
@[simp] theorem closeAndRelease_matching_drawing (s : State) : (closeAndRelease s).matching.drawing = none := by
  unfold closeAndRelease
  split
  · assumption
  · simp

@[simp] theorem openDrawing_signals (s : State) : (openDrawing s).signals = s.signals := by
  unfold openDrawing
  dsimp only
  split <;> simp
@[simp] theorem openDrawing_tracker (s : State) : (openDrawing s).tracker = s.tracker := by
  unfold openDrawing
  dsimp only
  split <;> simp
@[simp] theorem openDrawing_density (s : State) : (openDrawing s).density = s.density := by
  unfold openDrawing
  dsimp only
  split <;> simp
@[simp] theorem openDrawing_composer (s : State) : (openDrawing s).composer = s.composer := by
  unfold openDrawing
  dsimp only
  split <;> simp
@[simp] theorem openDrawing_openChoices (s : State) : (openDrawing s).openChoices = s.openChoices := by
  unfold openDrawing
  dsimp only
  split <;> simp
@[simp] theorem openDrawing_pending (s : State) : (openDrawing s).pending = s.pending := by
  unfold openDrawing
  dsimp only
  split <;> simp

@[simp] theorem takeDoc_state_signals (g : SlotFlags) (s : State) : (takeDoc g s).state.signals = s.signals := by
  unfold takeDoc
  dsimp only
  split <;> simp
@[simp] theorem takeDoc_state_tracker (g : SlotFlags) (s : State) : (takeDoc g s).state.tracker = s.tracker := by
  unfold takeDoc
  dsimp only
  split <;> simp
@[simp] theorem takeDoc_state_density (g : SlotFlags) (s : State) : (takeDoc g s).state.density = s.density := by
  unfold takeDoc
  dsimp only
  split <;> simp
@[simp] theorem takeDoc_state_composer (g : SlotFlags) (s : State) : (takeDoc g s).state.composer = s.composer := by
  unfold takeDoc
  dsimp only
  split <;> simp
@[simp] theorem takeDoc_state_openChoices (g : SlotFlags) (s : State) : (takeDoc g s).state.openChoices = s.openChoices := by
  unfold takeDoc
  dsimp only
  split <;> simp
@[simp] theorem takeDoc_state_pending (g : SlotFlags) (s : State) : (takeDoc g s).state.pending = s.pending := by
  unfold takeDoc
  dsimp only
  split <;> simp

@[simp] theorem takeSheetOf_state_signals (d : Drawing) (g : SlotFlags) (s : State) : (takeSheetOf d g s).state.signals = s.signals := by
  unfold takeSheetOf
  split <;> rfl
@[simp] theorem takeSheetOf_state_tracker (d : Drawing) (g : SlotFlags) (s : State) : (takeSheetOf d g s).state.tracker = s.tracker := by
  unfold takeSheetOf
  split <;> rfl
@[simp] theorem takeSheetOf_state_density (d : Drawing) (g : SlotFlags) (s : State) : (takeSheetOf d g s).state.density = s.density := by
  unfold takeSheetOf
  split <;> rfl
@[simp] theorem takeSheetOf_state_composer (d : Drawing) (g : SlotFlags) (s : State) : (takeSheetOf d g s).state.composer = s.composer := by
  unfold takeSheetOf
  split <;> rfl
@[simp] theorem takeSheetOf_state_openChoices (d : Drawing) (g : SlotFlags) (s : State) : (takeSheetOf d g s).state.openChoices = s.openChoices := by
  unfold takeSheetOf
  split <;> rfl
@[simp] theorem takeSheetOf_state_pending (d : Drawing) (g : SlotFlags) (s : State) : (takeSheetOf d g s).state.pending = s.pending := by
  unfold takeSheetOf
  split <;> rfl

@[simp] theorem takeLateRetake_state_signals (s : State) : (takeLateRetake s).state.signals = s.signals := by
  unfold takeLateRetake
  split
  · simp
  · split <;> simp
  · simp
@[simp] theorem takeLateRetake_state_tracker (s : State) : (takeLateRetake s).state.tracker = s.tracker := by
  unfold takeLateRetake
  split
  · simp
  · split <;> simp
  · simp
@[simp] theorem takeLateRetake_state_density (s : State) : (takeLateRetake s).state.density = s.density := by
  unfold takeLateRetake
  split
  · simp
  · split <;> simp
  · simp
@[simp] theorem takeLateRetake_state_composer (s : State) : (takeLateRetake s).state.composer = s.composer := by
  unfold takeLateRetake
  split
  · simp
  · split <;> simp
  · simp
@[simp] theorem takeLateRetake_state_openChoices (s : State) : (takeLateRetake s).state.openChoices = s.openChoices := by
  unfold takeLateRetake
  split
  · simp
  · split <;> simp
  · simp
@[simp] theorem takeLateRetake_state_pending (s : State) : (takeLateRetake s).state.pending = s.pending := by
  unfold takeLateRetake
  split
  · simp
  · split <;> simp
  · simp

@[simp] theorem takeRetake_state_signals (s : State) : (takeRetake s).state.signals = s.signals := by
  unfold takeRetake
  split
  · simp
  · split <;> simp [supersedeNewest]
@[simp] theorem takeRetake_state_tracker (s : State) : (takeRetake s).state.tracker = s.tracker := by
  unfold takeRetake
  split
  · simp
  · split <;> simp [supersedeNewest]
@[simp] theorem takeRetake_state_density (s : State) : (takeRetake s).state.density = s.density := by
  unfold takeRetake
  split
  · simp
  · split <;> simp [supersedeNewest]
@[simp] theorem takeRetake_state_composer (s : State) : (takeRetake s).state.composer = s.composer := by
  unfold takeRetake
  split
  · simp
  · split <;> simp [supersedeNewest]
@[simp] theorem takeRetake_state_openChoices (s : State) : (takeRetake s).state.openChoices = s.openChoices := by
  unfold takeRetake
  split
  · simp
  · split <;> simp [supersedeNewest]
@[simp] theorem takeRetake_state_pending (s : State) : (takeRetake s).state.pending = s.pending := by
  unfold takeRetake
  split
  · simp
  · split <;> simp [supersedeNewest]

@[simp] theorem takeCard_state_signals (mark : MarkClass) (s : State) : (takeCard mark s).state.signals = s.signals := by
  unfold takeCard
  split
  · simp
  · split
    · split <;> simp
    · simp
  · split <;> simp
  · simp
  · simp
@[simp] theorem takeCard_state_tracker (mark : MarkClass) (s : State) : (takeCard mark s).state.tracker = s.tracker := by
  unfold takeCard
  split
  · simp
  · split
    · split <;> simp
    · simp
  · split <;> simp
  · simp
  · simp
@[simp] theorem takeCard_state_density (mark : MarkClass) (s : State) : (takeCard mark s).state.density = s.density := by
  unfold takeCard
  split
  · simp
  · split
    · split <;> simp
    · simp
  · split <;> simp
  · simp
  · simp
@[simp] theorem takeCard_state_composer (mark : MarkClass) (s : State) : (takeCard mark s).state.composer = s.composer := by
  unfold takeCard
  split
  · simp
  · split
    · split <;> simp
    · simp
  · split <;> simp
  · simp
  · simp
@[simp] theorem takeCard_state_openChoices (mark : MarkClass) (s : State) : (takeCard mark s).state.openChoices = s.openChoices := by
  unfold takeCard
  split
  · simp
  · split
    · split <;> simp
    · simp
  · split <;> simp
  · simp
  · simp
@[simp] theorem takeCard_state_pending (mark : MarkClass) (s : State) : (takeCard mark s).state.pending = s.pending := by
  unfold takeCard
  split
  · simp
  · split
    · split <;> simp
    · simp
  · split <;> simp
  · simp
  · simp

@[simp] theorem joinSlot_signals (slot : Slot) (s : State) : (joinSlot slot s).signals = s.signals := by
  simp [joinSlot]
@[simp] theorem joinSlot_tracker (slot : Slot) (s : State) : (joinSlot slot s).tracker = s.tracker := by
  simp [joinSlot]
@[simp] theorem joinSlot_density (slot : Slot) (s : State) : (joinSlot slot s).density = s.density := by
  simp [joinSlot]
@[simp] theorem joinSlot_composer (slot : Slot) (s : State) : (joinSlot slot s).composer = s.composer := by
  simp [joinSlot]
@[simp] theorem joinSlot_openChoices (slot : Slot) (s : State) : (joinSlot slot s).openChoices = s.openChoices := by
  simp [joinSlot]
@[simp] theorem joinSlot_pending (slot : Slot) (s : State) : (joinSlot slot s).pending = s.pending := by
  simp [joinSlot]

@[simp] theorem acceptFrame_signals (f : ClosedFrame) (s : State) : (acceptFrame f s).signals = s.signals := by
  unfold acceptFrame
  split <;> simp
@[simp] theorem acceptFrame_tracker (f : ClosedFrame) (s : State) : (acceptFrame f s).tracker = s.tracker := by
  unfold acceptFrame
  split <;> simp
@[simp] theorem acceptFrame_density (f : ClosedFrame) (s : State) : (acceptFrame f s).density = s.density := by
  unfold acceptFrame
  split <;> simp
@[simp] theorem acceptFrame_composer (f : ClosedFrame) (s : State) : (acceptFrame f s).composer = s.composer := by
  unfold acceptFrame
  split <;> simp
@[simp] theorem acceptFrame_openChoices (f : ClosedFrame) (s : State) : (acceptFrame f s).openChoices = s.openChoices := by
  unfold acceptFrame
  split <;> simp
@[simp] theorem acceptFrame_pending (f : ClosedFrame) (s : State) : (acceptFrame f s).pending = s.pending := by
  unfold acceptFrame
  split <;> simp

@[simp] theorem earlyUnlisted_signals (slot : Slot) (s : State) : (earlyUnlisted slot s).signals = s.signals := by
  unfold earlyUnlisted
  split <;> simp
@[simp] theorem earlyUnlisted_tracker (slot : Slot) (s : State) : (earlyUnlisted slot s).tracker = s.tracker := by
  unfold earlyUnlisted
  split <;> simp
@[simp] theorem earlyUnlisted_density (slot : Slot) (s : State) : (earlyUnlisted slot s).density = s.density := by
  unfold earlyUnlisted
  split <;> simp
@[simp] theorem earlyUnlisted_composer (slot : Slot) (s : State) : (earlyUnlisted slot s).composer = s.composer := by
  unfold earlyUnlisted
  split <;> simp
@[simp] theorem earlyUnlisted_openChoices (slot : Slot) (s : State) : (earlyUnlisted slot s).openChoices = s.openChoices := by
  unfold earlyUnlisted
  split <;> simp
@[simp] theorem earlyUnlisted_pending (slot : Slot) (s : State) : (earlyUnlisted slot s).pending = s.pending := by
  unfold earlyUnlisted
  split <;> simp

@[simp] theorem earlyRelease_signals (s : State) : (earlyRelease s).signals = s.signals := by
  unfold earlyRelease
  split <;> simp
@[simp] theorem earlyRelease_tracker (s : State) : (earlyRelease s).tracker = s.tracker := by
  unfold earlyRelease
  split <;> simp
@[simp] theorem earlyRelease_density (s : State) : (earlyRelease s).density = s.density := by
  unfold earlyRelease
  split <;> simp
@[simp] theorem earlyRelease_composer (s : State) : (earlyRelease s).composer = s.composer := by
  unfold earlyRelease
  split <;> simp
@[simp] theorem earlyRelease_openChoices (s : State) : (earlyRelease s).openChoices = s.openChoices := by
  unfold earlyRelease
  split <;> simp
@[simp] theorem earlyRelease_pending (s : State) : (earlyRelease s).pending = s.pending := by
  unfold earlyRelease
  split <;> simp

@[simp] theorem makeRoom_signals (s : State) : (makeRoom s).signals = s.signals := by
  unfold makeRoom
  split <;> simp
@[simp] theorem makeRoom_tracker (s : State) : (makeRoom s).tracker = s.tracker := by
  unfold makeRoom
  split <;> simp
@[simp] theorem makeRoom_density (s : State) : (makeRoom s).density = s.density := by
  unfold makeRoom
  split <;> simp
@[simp] theorem makeRoom_composer (s : State) : (makeRoom s).composer = s.composer := by
  unfold makeRoom
  split <;> simp
@[simp] theorem makeRoom_openChoices (s : State) : (makeRoom s).openChoices = s.openChoices := by
  unfold makeRoom
  split <;> simp
@[simp] theorem makeRoom_pending (s : State) : (makeRoom s).pending = s.pending := by
  unfold makeRoom
  split <;> simp

/-- Taking a frame refuses it, or makes room and accepts it (R74). -/
theorem takeFrame_cases (f : ClosedFrame) (s : State) :
    (isRefused f s = true ∧ takeFrame f s = none) ∨
    (isRefused f s = false ∧ takeFrame f s = some (acceptFrame f (makeRoom s))) := by
  unfold takeFrame
  cases h : isRefused f s
  · exact .inr ⟨rfl, by simp⟩
  · exact .inl ⟨rfl, by simp⟩

theorem takeFrame_signals (f : ClosedFrame) (s t : State) (h : takeFrame f s = some t) : t.signals = s.signals := by
  rcases takeFrame_cases f s with ⟨_, e⟩ | ⟨_, e⟩
  · rw [e] at h; cases h
  · rw [e] at h; cases h; simp
theorem takeFrame_tracker (f : ClosedFrame) (s t : State) (h : takeFrame f s = some t) : t.tracker = s.tracker := by
  rcases takeFrame_cases f s with ⟨_, e⟩ | ⟨_, e⟩
  · rw [e] at h; cases h
  · rw [e] at h; cases h; simp
theorem takeFrame_density (f : ClosedFrame) (s t : State) (h : takeFrame f s = some t) : t.density = s.density := by
  rcases takeFrame_cases f s with ⟨_, e⟩ | ⟨_, e⟩
  · rw [e] at h; cases h
  · rw [e] at h; cases h; simp
theorem takeFrame_composer (f : ClosedFrame) (s t : State) (h : takeFrame f s = some t) : t.composer = s.composer := by
  rcases takeFrame_cases f s with ⟨_, e⟩ | ⟨_, e⟩
  · rw [e] at h; cases h
  · rw [e] at h; cases h; simp
theorem takeFrame_openChoices (f : ClosedFrame) (s t : State) (h : takeFrame f s = some t) : t.openChoices = s.openChoices := by
  rcases takeFrame_cases f s with ⟨_, e⟩ | ⟨_, e⟩
  · rw [e] at h; cases h
  · rw [e] at h; cases h; simp
theorem takeFrame_pending (f : ClosedFrame) (s t : State) (h : takeFrame f s = some t) : t.pending = s.pending := by
  rcases takeFrame_cases f s with ⟨_, e⟩ | ⟨_, e⟩
  · rw [e] at h; cases h
  · rw [e] at h; cases h; simp

@[simp] theorem reportList_signals (s : State) : (reportList s).signals = s.signals := by
  simp [reportList]
@[simp] theorem reportList_tracker (s : State) : (reportList s).tracker = s.tracker := by
  simp [reportList]
@[simp] theorem reportList_density (s : State) : (reportList s).density = s.density := by
  simp [reportList]
@[simp] theorem reportList_composer (s : State) : (reportList s).composer = s.composer := by
  simp [reportList]
@[simp] theorem reportList_openChoices (s : State) : (reportList s).openChoices = s.openChoices := by
  simp [reportList]
@[simp] theorem reportList_pending (s : State) : (reportList s).pending = s.pending := by
  simp [reportList]

/-- After the report the reason LIST stands exactly when the drawing is OPEN_UNBOUND (R73). -/
@[simp] theorem reportList_list (s : State) : (reportList s).output.halt.list = openUnbound (reportList s).matching := by
  have h := requestHalt_haltHas .list (openUnbound s.matching) s
  simpa [reportList, haltHas] using h

@[simp] theorem restartTimer_signals (s : State) : (restartTimer s).signals = s.signals := by
  unfold restartTimer
  split <;> rfl
@[simp] theorem restartTimer_tracker (s : State) : (restartTimer s).tracker = s.tracker := by
  unfold restartTimer
  split <;> rfl
@[simp] theorem restartTimer_density (s : State) : (restartTimer s).density = s.density := by
  unfold restartTimer
  split <;> rfl
@[simp] theorem restartTimer_composer (s : State) : (restartTimer s).composer = s.composer := by
  unfold restartTimer
  split <;> rfl
@[simp] theorem restartTimer_openChoices (s : State) : (restartTimer s).openChoices = s.openChoices := by
  unfold restartTimer
  split <;> rfl
@[simp] theorem restartTimer_pending (s : State) : (restartTimer s).pending = s.pending := by
  unfold restartTimer
  split <;> rfl

@[simp] theorem settleTimer_signals (s : State) : (settleTimer s).signals = s.signals := by
  unfold settleTimer
  split <;> rfl
@[simp] theorem settleTimer_tracker (s : State) : (settleTimer s).tracker = s.tracker := by
  unfold settleTimer
  split <;> rfl
@[simp] theorem settleTimer_density (s : State) : (settleTimer s).density = s.density := by
  unfold settleTimer
  split <;> rfl
@[simp] theorem settleTimer_composer (s : State) : (settleTimer s).composer = s.composer := by
  unfold settleTimer
  split <;> rfl
@[simp] theorem settleTimer_openChoices (s : State) : (settleTimer s).openChoices = s.openChoices := by
  unfold settleTimer
  split <;> rfl
@[simp] theorem settleTimer_pending (s : State) : (settleTimer s).pending = s.pending := by
  unfold settleTimer
  split <;> rfl

end Sys2Proof.Machine
end

