-- ==== Sys2Proof/Laws/Tracker.lean ====
section
/-! SUPPORT. Frames of the frame tracker: film traffic touches neither the signals, the composer nor the queue of commands. -/

namespace Sys2Proof.Machine

@[simp] theorem noteLoss_signals (s : State) : (noteLoss s).signals = s.signals := by
  simp [noteLoss]
@[simp] theorem noteLoss_composer (s : State) : (noteLoss s).composer = s.composer := by
  simp [noteLoss]
@[simp] theorem noteLoss_openChoices (s : State) : (noteLoss s).openChoices = s.openChoices := by
  simp [noteLoss]
@[simp] theorem noteLoss_pending (s : State) : (noteLoss s).pending = s.pending := by
  simp [noteLoss]

@[simp] theorem loseFrame_signals (f : ClosedFrame) (s : State) : (loseFrame f s).signals = s.signals := by
  simp [loseFrame]
@[simp] theorem loseFrame_composer (f : ClosedFrame) (s : State) : (loseFrame f s).composer = s.composer := by
  simp [loseFrame]
@[simp] theorem loseFrame_openChoices (f : ClosedFrame) (s : State) : (loseFrame f s).openChoices = s.openChoices := by
  simp [loseFrame]
@[simp] theorem loseFrame_pending (f : ClosedFrame) (s : State) : (loseFrame f s).pending = s.pending := by
  simp [loseFrame]

@[simp] theorem takeLoss_signals (o : Occasion) (f : ClosedFrame) (s : State) : (takeLoss o f s).signals = s.signals := by
  cases o <;> simp [takeLoss]
@[simp] theorem takeLoss_composer (o : Occasion) (f : ClosedFrame) (s : State) : (takeLoss o f s).composer = s.composer := by
  cases o <;> simp [takeLoss]
@[simp] theorem takeLoss_openChoices (o : Occasion) (f : ClosedFrame) (s : State) : (takeLoss o f s).openChoices = s.openChoices := by
  cases o <;> simp [takeLoss]
@[simp] theorem takeLoss_pending (o : Occasion) (f : ClosedFrame) (s : State) : (takeLoss o f s).pending = s.pending := by
  cases o <;> simp [takeLoss]

@[simp] theorem handOver_signals (o : Occasion) (fs : List ClosedFrame) (s : State) : (handOver o fs s).signals = s.signals := by
  induction fs generalizing s with
  | nil => rfl
  | cons g fs ih =>
    unfold handOver
    split
    · simp
    · rename_i t ht
      rw [ih]
      exact takeFrame_signals g s t ht
@[simp] theorem handOver_composer (o : Occasion) (fs : List ClosedFrame) (s : State) : (handOver o fs s).composer = s.composer := by
  induction fs generalizing s with
  | nil => rfl
  | cons g fs ih =>
    unfold handOver
    split
    · simp
    · rename_i t ht
      rw [ih]
      exact takeFrame_composer g s t ht
@[simp] theorem handOver_openChoices (o : Occasion) (fs : List ClosedFrame) (s : State) : (handOver o fs s).openChoices = s.openChoices := by
  induction fs generalizing s with
  | nil => rfl
  | cons g fs ih =>
    unfold handOver
    split
    · simp
    · rename_i t ht
      rw [ih]
      exact takeFrame_openChoices g s t ht
@[simp] theorem handOver_pending (o : Occasion) (fs : List ClosedFrame) (s : State) : (handOver o fs s).pending = s.pending := by
  induction fs generalizing s with
  | nil => rfl
  | cons g fs ih =>
    unfold handOver
    split
    · simp
    · rename_i t ht
      rw [ih]
      exact takeFrame_pending g s t ht

@[simp] theorem flushBuffer_signals (o : Occasion) (s : State) : (flushBuffer o s).signals = s.signals := by
  simp [flushBuffer]
@[simp] theorem flushBuffer_composer (o : Occasion) (s : State) : (flushBuffer o s).composer = s.composer := by
  simp [flushBuffer]
@[simp] theorem flushBuffer_openChoices (o : Occasion) (s : State) : (flushBuffer o s).openChoices = s.openChoices := by
  simp [flushBuffer]
@[simp] theorem flushBuffer_pending (o : Occasion) (s : State) : (flushBuffer o s).pending = s.pending := by
  simp [flushBuffer]

@[simp] theorem acquire_signals (o : Occasion) (f : ClosedFrame) (s : State) : (acquire o f s).signals = s.signals := by
  unfold acquire
  dsimp only
  split
  · simp
  · split
    · simp
    · split <;> simp
@[simp] theorem acquire_composer (o : Occasion) (f : ClosedFrame) (s : State) : (acquire o f s).composer = s.composer := by
  unfold acquire
  dsimp only
  split
  · simp
  · split
    · simp
    · split <;> simp
@[simp] theorem acquire_openChoices (o : Occasion) (f : ClosedFrame) (s : State) : (acquire o f s).openChoices = s.openChoices := by
  unfold acquire
  dsimp only
  split
  · simp
  · split
    · simp
    · split <;> simp
@[simp] theorem acquire_pending (o : Occasion) (f : ClosedFrame) (s : State) : (acquire o f s).pending = s.pending := by
  unfold acquire
  dsimp only
  split
  · simp
  · split
    · simp
    · split <;> simp

@[simp] theorem pitchEvent_signals (c : PitchClass) (s : State) : (pitchEvent c s).signals = s.signals := by
  cases c <;> simp [pitchEvent]
@[simp] theorem pitchEvent_composer (c : PitchClass) (s : State) : (pitchEvent c s).composer = s.composer := by
  cases c <;> simp [pitchEvent]
@[simp] theorem pitchEvent_openChoices (c : PitchClass) (s : State) : (pitchEvent c s).openChoices = s.openChoices := by
  cases c <;> simp [pitchEvent]
@[simp] theorem pitchEvent_pending (c : PitchClass) (s : State) : (pitchEvent c s).pending = s.pending := by
  cases c <;> simp [pitchEvent]

@[simp] theorem afterClose_signals (f : ClosedFrame) (s : State) : (afterClose f s).signals = s.signals := by
  unfold afterClose
  dsimp only
  split <;> simp
@[simp] theorem afterClose_composer (f : ClosedFrame) (s : State) : (afterClose f s).composer = s.composer := by
  unfold afterClose
  dsimp only
  split <;> simp
@[simp] theorem afterClose_openChoices (f : ClosedFrame) (s : State) : (afterClose f s).openChoices = s.openChoices := by
  unfold afterClose
  dsimp only
  split <;> simp
@[simp] theorem afterClose_pending (f : ClosedFrame) (s : State) : (afterClose f s).pending = s.pending := by
  unfold afterClose
  dsimp only
  split <;> simp

@[simp] theorem exhaust_signals (o : Occasion) (s : State) : (exhaust o s).signals = s.signals := by
  simp [exhaust]
@[simp] theorem exhaust_composer (o : Occasion) (s : State) : (exhaust o s).composer = s.composer := by
  simp [exhaust]
@[simp] theorem exhaust_openChoices (o : Occasion) (s : State) : (exhaust o s).openChoices = s.openChoices := by
  simp [exhaust]
@[simp] theorem exhaust_pending (o : Occasion) (s : State) : (exhaust o s).pending = s.pending := by
  simp [exhaust]

@[simp] theorem routeFrame_signals (o : Occasion) (f : ClosedFrame) (s : State) : (routeFrame o f s).signals = s.signals := by
  unfold routeFrame
  split <;> simp
@[simp] theorem routeFrame_composer (o : Occasion) (f : ClosedFrame) (s : State) : (routeFrame o f s).composer = s.composer := by
  unfold routeFrame
  split <;> simp
@[simp] theorem routeFrame_openChoices (o : Occasion) (f : ClosedFrame) (s : State) : (routeFrame o f s).openChoices = s.openChoices := by
  unfold routeFrame
  split <;> simp
@[simp] theorem routeFrame_pending (o : Occasion) (f : ClosedFrame) (s : State) : (routeFrame o f s).pending = s.pending := by
  unfold routeFrame
  split <;> simp

@[simp] theorem closeAssembly_signals (o : Occasion) (p : PitchSource) (s : State) : (closeAssembly o p s).signals = s.signals := by
  unfold closeAssembly
  split
  · rfl
  · split <;> simp
@[simp] theorem closeAssembly_composer (o : Occasion) (p : PitchSource) (s : State) : (closeAssembly o p s).composer = s.composer := by
  unfold closeAssembly
  split
  · rfl
  · split <;> simp
@[simp] theorem closeAssembly_openChoices (o : Occasion) (p : PitchSource) (s : State) : (closeAssembly o p s).openChoices = s.openChoices := by
  unfold closeAssembly
  split
  · rfl
  · split <;> simp
@[simp] theorem closeAssembly_pending (o : Occasion) (p : PitchSource) (s : State) : (closeAssembly o p s).pending = s.pending := by
  unfold closeAssembly
  split
  · rfl
  · split <;> simp

@[simp] theorem forwardMark_signals (mark : MarkClass) (c : Nat) (s : State) : (forwardMark mark c s).signals = s.signals := by
  unfold forwardMark
  dsimp only
  split <;> simp
@[simp] theorem forwardMark_composer (mark : MarkClass) (c : Nat) (s : State) : (forwardMark mark c s).composer = s.composer := by
  unfold forwardMark
  dsimp only
  split <;> simp
@[simp] theorem forwardMark_openChoices (mark : MarkClass) (c : Nat) (s : State) : (forwardMark mark c s).openChoices = s.openChoices := by
  unfold forwardMark
  dsimp only
  split <;> simp
@[simp] theorem forwardMark_pending (mark : MarkClass) (c : Nat) (s : State) : (forwardMark mark c s).pending = s.pending := by
  unfold forwardMark
  dsimp only
  split <;> simp

@[simp] theorem reverse_signals (s : State) : (reverse s).signals = s.signals := by
  unfold reverse
  dsimp only
  split <;> simp
@[simp] theorem reverse_composer (s : State) : (reverse s).composer = s.composer := by
  unfold reverse
  dsimp only
  split <;> simp
@[simp] theorem reverse_openChoices (s : State) : (reverse s).openChoices = s.openChoices := by
  unfold reverse
  dsimp only
  split <;> simp
@[simp] theorem reverse_pending (s : State) : (reverse s).pending = s.pending := by
  unfold reverse
  dsimp only
  split <;> simp

@[simp] theorem takeSample_signals (x : Sample) (s : State) : (takeSample x s).signals = s.signals := by
  unfold takeSample
  split
  · split <;> simp
  · rfl
@[simp] theorem takeSample_composer (x : Sample) (s : State) : (takeSample x s).composer = s.composer := by
  unfold takeSample
  split
  · split <;> simp
  · rfl
@[simp] theorem takeSample_openChoices (x : Sample) (s : State) : (takeSample x s).openChoices = s.openChoices := by
  unfold takeSample
  split
  · split <;> simp
  · rfl
@[simp] theorem takeSample_pending (x : Sample) (s : State) : (takeSample x s).pending = s.pending := by
  unfold takeSample
  split
  · split <;> simp
  · rfl
@[simp] theorem takeSample_tracker (x : Sample) (s : State) : (takeSample x s).tracker = s.tracker := by
  unfold takeSample
  split
  · split <;> simp
  · rfl
@[simp] theorem takeSample_matching (x : Sample) (s : State) : (takeSample x s).matching = s.matching := by
  unfold takeSample
  split
  · split <;> simp
  · rfl
@[simp] theorem takeSample_list (x : Sample) (s : State) : (takeSample x s).list = s.list := by
  unfold takeSample
  split
  · split <;> simp
  · rfl
@[simp] theorem takeSample_output (x : Sample) (s : State) : (takeSample x s).output = s.output := by
  unfold takeSample
  split
  · split <;> simp
  · rfl

@[simp] theorem takeSamples_signals (xs : List Sample) (s : State) : (takeSamples xs s).signals = s.signals := by
  induction xs generalizing s with
  | nil => rfl
  | cons x xs ih => simp [takeSamples, ih]
@[simp] theorem takeSamples_composer (xs : List Sample) (s : State) : (takeSamples xs s).composer = s.composer := by
  induction xs generalizing s with
  | nil => rfl
  | cons x xs ih => simp [takeSamples, ih]
@[simp] theorem takeSamples_openChoices (xs : List Sample) (s : State) : (takeSamples xs s).openChoices = s.openChoices := by
  induction xs generalizing s with
  | nil => rfl
  | cons x xs ih => simp [takeSamples, ih]
@[simp] theorem takeSamples_pending (xs : List Sample) (s : State) : (takeSamples xs s).pending = s.pending := by
  induction xs generalizing s with
  | nil => rfl
  | cons x xs ih => simp [takeSamples, ih]
@[simp] theorem takeSamples_tracker (xs : List Sample) (s : State) : (takeSamples xs s).tracker = s.tracker := by
  induction xs generalizing s with
  | nil => rfl
  | cons x xs ih => simp [takeSamples, ih]
@[simp] theorem takeSamples_matching (xs : List Sample) (s : State) : (takeSamples xs s).matching = s.matching := by
  induction xs generalizing s with
  | nil => rfl
  | cons x xs ih => simp [takeSamples, ih]
@[simp] theorem takeSamples_list (xs : List Sample) (s : State) : (takeSamples xs s).list = s.list := by
  induction xs generalizing s with
  | nil => rfl
  | cons x xs ih => simp [takeSamples, ih]
@[simp] theorem takeSamples_output (xs : List Sample) (s : State) : (takeSamples xs s).output = s.output := by
  induction xs generalizing s with
  | nil => rfl
  | cons x xs ih => simp [takeSamples, ih]

end Sys2Proof.Machine
end

