-- ==== Sys2Proof/Tests/Slice0.lean ====
section
/-! SUPPORT. Tests of the model against the spec's worked cases, and for each statement with hypotheses a state and operands that
meet them. -/

namespace Sys2Proof.Tests

open Sys2Proof.Machine Sys2Proof.Safety

set_option Elab.async false

/-! Helpers. -/

/-- The state after a command. -/
def after (c : Instr) (s : State) : State := match exec c s with | .next t => t | _ => s

/-- The bytes of a text. -/
def text (t : String) : List Byte := t.toList.map (fun c => BitVec.ofNat 8 c.toNat)

/-- Numbers as 16-bit words. -/
def words (ns : List Nat) : List Byte := ns.flatMap be16

/-- A REPLY on its way: with it the transmit port is busy, so the arbiter chooses nothing. -/
def onItsWay : Sending := { forwarded := false, record := ⟨0x41#8, 0#8, 5#8, [3#8, 0#8, 1#8]⟩ }

/-- A station in PASS on the STORED path, LOCKED, with position 5 and strap identity 3, its transmit port busy. -/
def passing : State :=
  let s := State.reset
  { s with line.mode := .pass, line.path := .stored, line.alignment := .locked, line.position := some 5, line.strap := 3#4
           line.sending := some onItsWay }

/-- The same station in CONVERT. -/
def convert : State := { passing with line.mode := .convert }

/-- The same station in BYPASS without a position. -/
def bypassed : State := { passing with line.mode := .bypass, line.position := none }

/-- The same station in HUNT. -/
def hunting : State := { passing with line.alignment := .hunt }

def reel17 : ReelParams := { number := 17, polarity := .negative, format := .w12, linePitch := 5, counterAtLoad := 0 }

/-- Reel 17 is tracked, the last mark at 12000, frame 39 the last, 90 lines of a SHEET frame in assembly (1.8, the pitch check). -/
def tracking : State :=
  let s := convert
  { s with tracker.state := .tracking, tracker.reel := some reel17, tracker.lastMark := some 12000
           tracker.nextNew := 11700, tracker.frameCounter := 39
           tracker.assembly := some { mark := .sheet, counter := 12000, lines := 90, lineOverflow := false }
           density.acc := { n := 118, sum := 13334, dmin := some 13, dmax := some 131, overflow := false } }

/-- The same without a frame in assembly, in another state of the tracker. -/
def trackerIn (st : TrackerState) : State := { tracking with tracker.state := st, tracker.assembly := none }

def entry1002 : Entry :=
  { listNumber := 1002, drawing := text "A-1044", revision := text "C", sheetCount := 2, title := [] }

/-- Sheets of drawing 7 in the hold queue; frame 22 is the retake of chapter 5's worked card. -/
def slot21 : Slot := { reel := 17, number := 21, counter := 9440, pitch := 450, body := .card (.bound entry1002 7 1) {} }
def slot22 : Slot :=
  { reel := 17, number := 22, counter := 9890, pitch := 452, body := .card (.bound entry1002 7 2) { retake := true } }
def looseSlot : Slot := { reel := 17, number := 21, counter := 9440, pitch := 450, body := .card (.unbound 7 1) {} }
def wasteSlot (k : Nat) : Slot := { reel := 17, number := k, counter := 100, pitch := 450, body := .waste .blank }

def bound7 (sheets : Nat) : Drawing := { serial := 7, entry := some entry1002, sheetsSeen := sheets }
def loose7 : Drawing := { serial := 7, entry := none, sheetsSeen := 1 }

/-- An open drawing and its slots held. -/
def holding (hold : List Slot) (d : Option Drawing) : State := { tracking with matching.hold := hold, matching.drawing := d }

def ins (k : Nat) : Instruction :=
  { seq := k, reel := 17, number := k, counter := 5, pitch := 450, reissued := false, body := .waste .target }

/-- Instructions from one sequence on. -/
def queueOf (first n : Nat) : List Instruction := (List.range n).map (fun k => ins (first + k))

def flight (k d : Nat) : InFlight := { instruction := ins k, deadline := d }

/-- A record to pass on, and a control item. -/
def rec1 : Record := ⟨0x10#8, 9#8, 1#8, [1#8]⟩
def item : ControlItem := { halt := false, record := rec1 }

/-- A closed frame with GOOD density. -/
def frame (number : Nat) (m : MarkClass) : ClosedFrame :=
  { reel := 17, number := number, counter := 12000, pitch := 452, pitchClass := .normal, mark := m, leader := false
    pitchEstimated := false, suspect := false
    result := { n := 118, dmin := 13, dmean := 113, dmax := 131, contrast := 100, cls := .good, overflow := false }
    sampleOverflow := false }

/-! Well-formed commands: for each check a term that it refuses. -/

def longPayload : List Byte := List.replicate 321 0#8

theorem test_payload_fits :
    wellFormed (.forwardRecord ⟨0x10#8, 9#8, 1#8, longPayload⟩) = false ∧
    wellFormed (.goodRecordInHunt ⟨0x10#8, 9#8, 1#8, longPayload⟩) = false ∧
    wellFormed (.scan 66#8 1#8 longPayload) = false ∧
    wellFormed (.scan 66#8 1#8 (longPayload.take 320)) = true := by decide +kernel

theorem test_operand_fits :
    wellFormed (.setMode 5#8 0#8 (longPayload.take 320)) = false ∧
    wellFormed (.setMode 5#8 0#8 (longPayload.take 319)) = true ∧
    wellFormed (.unknownCommand 5#8 0#8 0x99#8 (longPayload.take 320)) = false := by decide +kernel

theorem test_unknown_code_is_unknown :
    wellFormed (.unknownCommand 5#8 0#8 0x3F#8 []) = false ∧ wellFormed (.unknownCommand 5#8 0#8 0x99#8 []) = true := by
  decide

/-- Bad bytes: not the empty ones, not those of a good record, not those that reach past the record they announce. -/
theorem test_bad_bytes :
    wellFormed (.badRecord []) = false ∧ wellFormed (.badRecord (recordBytes rec1)) = false ∧
    wellFormed (.badRecord (recordBytes rec1 ++ [0#8])) = false ∧
    wellFormed (.badRecord ((recordBytes rec1).take 7)) = true ∧
    wellFormed (.badRecord [0x40#8, 5#8, 0#8, 1#8, 0x41#8]) = true := by decide +kernel

/-! The check (R146): the register after the nine characters, as 10.3 gives it. -/

theorem test_check_value : checkOf (text "123456789") = 0x29B1#16 := by decide +kernel

/-! Signals. -/

theorem test_power_on :
    (after (.powerOn 9#4) convert).line.strap = 9#4 ∧ (after (.powerOn 9#4) convert).line.mode = .bypass := by decide +kernel

theorem test_nrst :
    (after .nrstAssert convert).line.path = .through ∧
    after (.join 63#8 0#8 [3#8]) (after .nrstAssert bypassed) = after .nrstAssert bypassed := by decide +kernel

theorem test_nrst_release :
    (after (.nrstRelease 6#4) convert).line.alignment = .hunt ∧
    (after (.nrstRelease 6#4) convert).line.strap = 6#4 := by decide +kernel

theorem test_strap_changed :
    (after (.strapChanged 4#4) convert).line.strap = 3#4 ∧
    (after (.strapChanged 4#4) convert).command.latched = 0x8#24 := by decide +kernel

/-! Alignment (7, Alignment, worked). -/

theorem test_third_good_record_locks :
    (after (.goodRecordInHunt rec1) { hunting with line.goodRun := 2 }).line.alignment = .locked ∧
    (after (.goodRecordInHunt rec1) { hunting with line.goodRun := 2 }).line.goodRun = 0 := by decide +kernel

theorem test_eighth_bad_record_slips :
    (after (.badRecord [1#8]) { passing with line.badRun := 7 }).line.alignment = .hunt ∧
    (after (.badRecord [1#8]) { passing with line.badRun := 7 }).command.latched = 0x3#24 := by decide +kernel

/-! The ring. -/

theorem test_forward :
    (after (.forwardRecord rec1) passing).line.forward = [rec1] ∧
    (after (.forwardRecord { rec1 with src := 5#8 }) passing).line.forward = [] := by decide +kernel

/-- R of the worked roll call: position 9 becomes 3, and 4 goes on. -/
theorem test_roll :
    (after (.roll 63#8 0#8 3#8) { convert with line.position := some 9 }).line.position = some 3 ∧
    ((after (.roll 63#8 0#8 3#8) { convert with line.position := some 9 }).line.control.map (fun c => c.record.payload)) =
      [[4#8]] := by decide +kernel

theorem test_roll_past_62 :
    (after (.roll 63#8 0#8 63#8) passing).line.position = none ∧
    (after (.roll 63#8 0#8 63#8) passing).command.latched = 0x10#24 := by decide +kernel

theorem test_join :
    (after (.join 63#8 0#8 [3#8]) { bypassed with line.path := .through }).line.mode = .pass ∧
    (after (.join 63#8 0#8 [2#8]) { bypassed with line.path := .through }).line.mode = .bypass := by decide +kernel

theorem test_path_to_stored :
    (after .pathToStored { passing with line.path := .through }).line.path = .stored ∧
    (after .pathToStored { bypassed with line.path := .through }).line.path = .through := by decide +kernel

theorem test_leave :
    (after (.leave 5#8 0#8 []) convert).line.mode = .bypass ∧
    ((after (.leave 5#8 0#8 []) convert).line.control.map (fun c => (c.record.src, c.record.payload))) =
      [(5#8, [2#8, 0#8])] := by decide +kernel

theorem test_leave_drain_end :
    (after .leaveDrainEnd { bypassed with line.sending := none }).line.path = .through ∧
    (after .leaveDrainEnd bypassed).line.path = .stored := by decide +kernel

/-- Choices 3 and 4 of the worked arbiter: at the burst limit of 2 the forwarded record goes, then an instruction. -/
def arbiter : State :=
  let s := convert
  { s with command.settings.burstLimit := 2, line.forward := [rec1, rec1], line.sending := none, output.queue := queueOf 3 3
           output.inFlight := [flight 1 40, flight 2 40] }

theorem test_arbiter :
    (after .arbiterChoice { arbiter with line.burst := 2 }).line.sending = some { forwarded := true, record := rec1 } ∧
    ((after .arbiterChoice { arbiter with line.burst := 0 }).output.inFlight.map (fun e => e.instruction.seq)) = [1, 2, 3] := by
  decide +kernel

/-- The port becomes free and the arbiter chooses: an instruction after the forwarded record, a control record first of all. -/
theorem test_transmit_complete :
    (after .transmitComplete { arbiter with line.sending := some { forwarded := true, record := rec1 } }).line.forward = [rec1] ∧
    ((after .transmitComplete { arbiter with line.sending := some { forwarded := true, record := rec1 } }).output.inFlight.map
      (fun e => e.instruction.seq)) = [1, 2, 3] ∧
    (after .transmitComplete { arbiter with line.sending := some onItsWay, line.control := [item, item] }).line.sending =
      some { forwarded := false, record := rec1 } := by
  decide +kernel

/-- What first comes to wait at a free port is sent at once: the REPLY goes, and the next record waits behind it. -/
theorem test_first_to_wait_is_sent :
    ((after (.leave 5#8 0#8 []) { passing with line.sending := none }).line.sending.map (fun x => x.record.payload)) =
      some [2#8, 0#8] ∧
    (after (.forwardRecord rec1) (after (.forwardRecord rec1) { passing with line.sending := none })).line.sending =
      some { forwarded := true, record := rec1 } := by decide +kernel

/-! Management commands. `replied` gives the payloads that a command queues. -/

def replied (c : Instr) (s : State) : List (List Byte) := (after c s).line.control.map (fun x => x.record.payload)

theorem test_empty_command :
    (after (.emptyCommand 5#8 0#8) passing).command.counters.droppedCommands = 1 ∧
    (after (.emptyCommand 63#8 0#8) passing).line.forward = [⟨0x40#8, 63#8, 0#8, []⟩] := by decide +kernel

theorem test_unknown_command :
    replied (.unknownCommand 5#8 0#8 0x99#8 [7#8]) passing = [[0x99#8, 8#8]] := by decide +kernel

theorem test_set_mode :
    replied (.setMode 5#8 0#8 [2#8]) passing = [[3#8, 0#8, 2#8]] ∧
    replied (.setMode 5#8 0#8 [1#8]) { convert with output.inFlight := [flight 1 4] } =
      [[3#8, 6#8, 0#8, 0#8, 1#8, 0#8]] := by decide +kernel

theorem test_station_reset :
    (after (.stationReset 5#8 0#8 []) tracking).tracker = powerOnTracker ∧
    replied (.stationReset 5#8 0#8 []) tracking = [[4#8, 0#8, 2#8, 0#8, 0#8, 1#8]] := by decide +kernel

/-- The repair of 2.3, worked: 1 value clamped, 3 points repaired, TABLE_REPAIRED. -/
def repairLoad : List Byte := words ([450, 181, 190, 120, 130, 125] ++ defaultDensityTable.drop 6)

theorem test_load_density :
    replied (.loadDensity 5#8 0#8 repairLoad) passing = [[0x10#8, 0#8, 1#8, 3#8]] ∧
    ((after (.loadDensity 5#8 0#8 repairLoad) passing).density.table.take 7) = [400, 181, 181, 120, 120, 120, 103] := by
  decide +kernel

/-- Loads 2 and 3 of 8, Settings loads, worked. -/
def load2 : List Byte := words [64, 20, 500, 80, 200, 300, 5000, 30, 0, 1, 0, 20, 40, 4, 4, 20, 30, 4]
def load3 : List Byte := words [64, 20, 500, 80, 200, 300, 5000, 30, 0, 7, 0, 20, 40, 4, 4, 30, 30, 4]

theorem test_load_settings :
    replied (.loadSettings 5#8 0#8 load2) passing = [[0x11#8, 2#8, 4#8]] ∧
    replied (.loadSettings 5#8 0#8 load3) passing = [[0x11#8, 0#8, 5#8]] := by decide +kernel

theorem test_load_settings_in_force :
    (after (.loadSettings 5#8 0#8 load3) passing).command.settings.cMin = 400 ∧
    (after (.loadSettings 5#8 0#8 load3) passing).command.settings.stopLevel = 24 ∧
    (after (.loadSettings 5#8 0#8 load3) passing).command.settings.poorReject = true := by decide +kernel

theorem test_load_punch :
    (after (.loadPunch 5#8 0#8 (words (List.replicate 64 0xF900))) passing).composer.punch = List.replicate 64 0x900#12 ∧
    replied (.loadPunch 5#8 0#8 (words (List.replicate 64 0xF900))) passing = [[0x12#8, 0#8, 0#8, 0#8]] := by decide +kernel

theorem test_load_fields :
    (after (.loadFields 5#8 0#8 [1#8, 3#8, 71#8, 30#8, 1#8]) passing).composer.fieldMap =
      [{ field := .title, first := 71, width := 10, justify := .right }] ∧
    replied (.loadFields 5#8 0#8 [1#8, 6#8, 71#8, 30#8, 1#8]) passing = [[0x13#8, 2#8, 1#8]] := by decide +kernel

/-- The append of 10, An append operand, worked, at step 4 of the list example. -/
def append4 : List Byte :=
  be16 1001 ++ [2#8, 8#8] ++ text "a-1043-7" ++ [0#8, 1#8, 11#8] ++ text "valve body" ++ [0xB0#8] ++
  [6#8] ++ text "A-1044" ++ [1#8] ++ text "C" ++ [2#8, 0#8]

def listed : State :=
  let s := convert
  { s with list.entries := [{ entry1002 with listNumber := 999 }, { entry1002 with listNumber := 1000 }]
           list.expected := some 1001 }

theorem test_list_append :
    replied (.listAppend 5#8 0#8 append4) listed = [[0x20#8, 0#8, 2#8, 0#8, 1#8, 0#8, 0#8, 4#8, 0x03#8, 0xEB#8]] ∧
    ((after (.listAppend 5#8 0#8 append4) listed).list.entries.drop 2).map (fun e => (e.drawing, e.title)) =
      [(text "A-1043-7", text "VALVE BODY?"), (text "A-1044", [])] := by decide +kernel

theorem test_list_append_sequence :
    replied (.listAppend 5#8 0#8 (be16 1003 ++ append4.drop 2)) listed = [[0x20#8, 3#8, 0x03#8, 0xE9#8]] := by decide +kernel

theorem test_list_clear :
    replied (.listClear 5#8 0#8 []) listed = [[0x21#8, 0#8, 0#8, 2#8]] ∧
    (after (.listClear 5#8 0#8 []) listed).list.expected = none := by decide +kernel

theorem test_list_query :
    replied (.listQuery 5#8 0#8 []) listed = [[0x22#8, 0#8, 0#8, 2#8, 1#8, 0x03#8, 0xE7#8, 1#8, 0x03#8, 0xE9#8]] := by
  decide +kernel

theorem test_flush :
    replied (.flush 5#8 0#8 []) (holding [slot21] (some (bound7 1))) = [[0x28#8, 0#8, 1#8, 7#8, 0#8]] ∧
    (after (.flush 5#8 0#8 []) (holding [slot21] (some (bound7 1)))).command.latched = 0x20000#24 := by decide +kernel

/-- 6, A jam, a second jam and a reissue: 301 goes to the front of 303 to 308, and FEED joins the control queue. -/
def jammed : State :=
  let s := convert
  { s with output.queue := queueOf 303 6, output.jam := some (ins 301), output.held := true, output.halt.jam := true }

theorem test_resume_reissue :
    ((after (.resumeOutput 5#8 0#8 [1#8]) jammed).output.queue.map (fun i => (i.seq, i.reissued))).take 2 =
      [(301, true), (303, false)] ∧
    ((after (.resumeOutput 5#8 0#8 [1#8]) jammed).line.control.map (fun c => c.record.kind)) = [0x31#8, 0x41#8] := by
  decide +kernel

theorem test_resume_drop :
    (after (.resumeOutput 5#8 0#8 [2#8]) jammed).command.counters.jamLost = 1 ∧
    replied (.resumeOutput 5#8 0#8 [1#8]) convert = [[0x29#8, 7#8]] := by decide +kernel

theorem test_read_status :
    ((replied (.readStatus 5#8 0#8 []) tracking).map (fun p => (p.length, (p.drop 2).take 8))) =
      [(148, [2#8, 1#8, 1#8, 0#8, 0#8, 5#8, 3#8, 0#8])] := by decide +kernel

theorem test_read_counters :
    ((replied (.readCounters 5#8 0#8 [1#8]) { convert with command.counters.cards := 259 }).map (fun p => (p.drop 2).take 9)) =
      [[1#8, 0#8, 0#8, 0#8, 0#8, 0#8, 0#8, 1#8, 3#8]] ∧
    (after (.readCounters 5#8 0#8 [1#8]) { convert with command.counters.cards := 259 }).command.counters = zeroCounters := by
  decide +kernel

/-- 9, Events and a notice: LIST_LOW and JAM latched. -/
def eventful : State := { convert with command.latched := 0x208000#24 }

theorem test_read_events :
    replied (.readEvents 5#8 0#8 []) eventful = [[0x32#8, 0#8, 0x20#8, 0x80#8, 0#8, 0x9E#8, 0xEE#8, 0xF9#8, 0#8]] := by
  decide +kernel

theorem test_clear_events :
    replied (.clearEvents 5#8 0#8 [0x20#8, 0#8, 0#8]) eventful =
      [[0x33#8, 0#8, 0x20#8, 0x80#8, 0#8, 0#8, 0x80#8, 0#8]] := by decide +kernel

theorem test_set_mask :
    replied (.setMask 5#8 0#8 [0x9E#8, 0x6E#8, 0xF9#8]) { convert with command.latched := 0x8000#24, command.arming := true } =
      [[0#8, 0x80#8, 0#8, 255#8], [0x34#8, 0#8, 0x9E#8, 0x6E#8, 0xF9#8, 1#8]] := by decide +kernel

theorem test_arm_notice :
    replied (.armNotice 5#8 0#8 []) eventful = [[0x20#8, 0#8, 0#8, 255#8], [0x35#8, 0#8, 0#8, 1#8]] ∧
    replied (.armNotice 5#8 0#8 []) convert = [[0x35#8, 0#8, 1#8, 0#8]] := by decide +kernel

theorem test_identify :
    replied (.identify 5#8 0#8 []) passing = [[0x3F#8, 0#8, 0x0B#8, 0x7A#8, 0x0C#8, 0x24#8, 1#8, 3#8, 5#8, 1#8]] := by
  decide +kernel

/-! Film traffic. -/

theorem test_reel :
    (after (.reel 66#8 1#8 12000#16 1#8 2#8 0#8 1000#24) convert).tracker.reel =
      some { number := 9999, polarity := .positive, format := .w8p, linePitch := 1, counterAtLoad := 1000 } ∧
    (after (.reel 66#8 1#8 12000#16 1#8 2#8 0#8 1000#24) convert).tracker.state = .acquire := by decide +kernel

/-- 1.8, the pitch check, worked: pitch 452 against 450 measured; next_new becomes 12150. -/
theorem test_mark_closes :
    (after (.mark 66#8 1#8 0#8 12452#24) tracking).tracker.nextNew = 12150 ∧
    (after (.mark 66#8 1#8 0#8 12452#24) tracking).density.last =
      some { n := 118, dmin := 13, dmean := 113, dmax := 131, contrast := 100, cls := .good, overflow := false } := by
  decide +kernel

/-- 1.7, a loss and its recovery: the frame is refused, and the resume point stands half of pitch_min before it. -/
def fullHold : State :=
  { holding ((List.range 32).map (fun k => wasteSlot (k + 1))) (some (bound7 1)) with output.queue := queueOf 1 24 }

theorem test_mark_loses :
    (after (.mark 66#8 1#8 0#8 12450#24) fullHold).tracker.state = .lost ∧
    (after (.mark 66#8 1#8 0#8 12450#24) fullHold).tracker.nextNew = 11850 := by decide +kernel

/-- The negative frame in W12 of 2, worked: background 131, line 13, the invalid word left out. -/
theorem test_scan :
    (after (.scan 66#8 1#8 (8#8 :: words [0x30C8, 0x30C8, 0x0BB8, 0x8BB8, 0x30C8, 0x30C8, 0x30C8, 0x30C8]))
      { tracking with density.acc := emptyAccumulators }).density.acc =
      { n := 7, sum := 6 * 131 + 13, dmin := some 13, dmax := some 131, overflow := false } ∧
    (after (.scan 66#8 1#8 [7#8]) tracking).command.counters.badScanLines = 1 := by decide +kernel

/-- The thin positive frame in W8P of 2, worked. -/
theorem test_thin_positive :
    sampleDensity defaultDensityTable (230 * 256) = 4 ∧ sampleDensity defaultDensityTable (120 * 256) = 33 ∧
    densityResult defaultSettings .positive { n := 80, sum := 610, dmin := some 4, dmax := some 33, overflow := false } =
      { n := 80, dmin := 4, dmean := 8, dmax := 33, contrast := 25, cls := .thin, overflow := false } := by decide +kernel

theorem test_reel_end :
    (after (.reelEnd 66#8 1#8) tracking).tracker.state = .idle ∧
    (after (.reelEnd 66#8 1#8) tracking).tracker.frameCounter = 40 := by decide +kernel

theorem test_flush_timer_expiry :
    (after .flushTimerExpiry { tracking with matching.flushTimer := some 0 }).tracker.assembly = none ∧
    (after .flushTimerExpiry tracking).tracker.assembly = tracking.tracker.assembly := by decide +kernel

/-! The mounter (6, Credit, a report past older entries, and a deadline). -/

def sent : State := { convert with output.inFlight := [flight 211 21, flight 212 22, flight 213 23, flight 214 32] }

theorem test_done :
    ((after (.done 5#8 8#8 212#16 0#8) sent).output.inFlight.map (fun e => e.instruction.seq)) = [213, 214] ∧
    (after (.done 5#8 8#8 212#16 0#8) sent).command.latched = 0x400000#24 := by decide +kernel

theorem test_done_jammed :
    (after (.done 5#8 8#8 212#16 1#8) sent).output.jam = some (ins 212) ∧
    (after (.done 5#8 8#8 210#16 0#8) sent).command.counters.strays = 1 := by decide +kernel

theorem test_done_deadline :
    ((after (.doneDeadlineExpiry 213#16) sent).output.inFlight.map (fun e => e.instruction.seq)) = [211, 212, 214] ∧
    (after (.doneDeadlineExpiry 213#16) sent).command.counters.unconfirmed = 1 := by decide +kernel

/-! The card of 5, Composition, worked, and its record of 10, Encoding a card, worked. -/

def card22 : List Byte := (instructionRecord 5#8 (render defaultSettings powerOnComposer 322 slot22)).payload

theorem test_card_fixed_part :
    card22.length = 122 ∧
    card22.take 25 =
      [0x01#8, 0x42#8, 0#8, 0x11#8, 0#8, 0x16#8, 0#8, 0#8, 0x26#8, 0xA2#8, 0#8, 0#8, 0x01#8, 0xC4#8, 0#8, 0#8, 0x03#8, 0xEA#8,
       2#8, 2#8, 0#8, 0#8, 0#8, 1#8, 0x31#8] := by decide +kernel

theorem test_card_image :
    card22.drop 74 =
      [0x09#8, 0x00#8, 0x81#8, 0x01#8, 0x00#8, 0x02#8, 0x00#8, 0x00#8, 0x20#8, 0x00#8, 0x20#8, 0x95#8, 0x00#8, 0x80#8, 0x81#8,
       0x00#8, 0x80#8, 0x81#8, 0x08#8, 0x40#8, 0x83#8, 0x02#8, 0x00#8, 0x02#8, 0x00#8, 0x01#8, 0x00#8, 0x00#8, 0x04#8, 0x81#8,
       0x02#8, 0x00#8, 0x02#8, 0x00#8, 0x02#8, 0x00#8, 0x00#8, 0x80#8, 0x00#8, 0x80#8, 0x81#8, 0x04#8, 0x01#8, 0x02#8, 0x40#8,
       0x04#8, 0x80#8, 0x9F#8] := by decide +kernel

theorem test_print_line :
    (card22.drop 25).take 49 =
      text "A-1044                     2/2 C   0017.00022 RTK" := by decide +kernel

/-! A tick. -/

theorem test_tick :
    (tick { sent with output.inFlight := [flight 211 1, flight 212 2] }).pending = [.doneDeadlineExpiry 211#16] ∧
    (tick { tracking with matching.flushTimer := some 1 }).pending = [.flushTimerExpiry] := by decide +kernel

/-! Witnesses: for each statement with hypotheses a state and operands that meet them together, clause by clause and at the
boundaries. -/

theorem witness_step_runs_front : ({ passing with pending := [.pathToStored, .arbiterChoice] } : State).pending =
    .pathToStored :: [.arbiterChoice] := rfl

theorem witness_empty_queue : State.reset.pending = [] := rfl

/-- NRST low with a good record and with a bad one. -/
theorem witness_signals :
    (after .nrstAssert convert).signals.nrstLow = true ∧ (recordOf (.reelEnd 66#8 1#8)).isSome = true ∧
    (∃ bytes, Instr.badRecord [1#8] = .badRecord bytes) := by
  exact ⟨by decide +kernel, by decide, ⟨_, rfl⟩⟩

/-- The table's first and last points. -/
theorem witness_default_tables : 1 ≤ 1 ∧ 1 ≤ 64 ∧ 64 ≤ 64 := by decide

/-- In HUNT: a record of 320 bytes at runs 1 and 2, a bad record; LOCKED: a bad record. -/
theorem witness_alignment :
    recordOf (.goodRecordInHunt ⟨0x10#8, 9#8, 1#8, longPayload.take 320⟩) = some ⟨0x10#8, 9#8, 1#8, longPayload.take 320⟩ ∧
    (longPayload.take 320).length ≤ 320 ∧ hunting.signals.nrstLow = false ∧ hunting.line.alignment = .hunt ∧
    isBadRecord [1#8] = true ∧ listening passing := by decide +kernel

/-- A record with the station's own source; one for no row of the sorting; in BYPASS one that is no JOIN of the station. -/
theorem witness_record_passed_on :
    recordOf (.forwardRecord { rec1 with src := 5#8 }) = some { rec1 with src := 5#8 } ∧ rec1.payload.length ≤ 320 ∧
    listening convert ∧ convert.line.mode ≠ .bypass ∧ isPosition convert.line 5#8 = true ∧
    recordOf (.forwardRecord rec1) = some rec1 ∧ onlyPassed convert rec1 ∧
    onlyPassed passing ⟨0x11#8, 66#8, 1#8, [0#8, 0#8, 0#8, 0#8]⟩ ∧ onlyPassed convert ⟨0x11#8, 66#8, 1#8, [0#8]⟩ ∧
    listening bypassed ∧ bypassed.line.mode = .bypass := by
  and_intros <;> decide +kernel

theorem witness_record_passed_on_in_bypass : ¬joinsBypass bypassed rec1 := fun h => absurd h.1 (by decide)

/-- Seven records wait: no room for a REPLY. -/
def crowded : State := { passing with line.control := List.replicate 7 item }

theorem witness_command_dropped :
    recordOf (.emptyCommand 63#8 0#8) = some ⟨0x40#8, 63#8, 0#8, []⟩ ∧ listening passing ∧ passing.line.mode ≠ .bypass ∧
    isPosition passing.line 0#8 = false ∧
    recordOf (.flush 5#8 0#8 []) = some ⟨0x40#8, 5#8, 0#8, [0x28#8]⟩ ∧ listening crowded ∧ crowded.line.mode ≠ .bypass ∧
    isPosition crowded.line 0#8 = false ∧ isPosition crowded.line 5#8 = true ∧
    7 ≤ (crowded.line.control.filter (fun x => !x.halt)).length + (if crowded.line.replyReserved then 1 else 0) ∧
    ([0x28#8] : List Byte).head? ≠ some 0x01#8 := by decide +kernel

/-- Counters 1, 62, 0, 63 and 255 with six records waiting, and a counter with seven. -/
theorem witness_roll :
    listening { passing with line.control := List.replicate 6 item } ∧
    controlRoom ({ passing with line.control := List.replicate 6 item } : State).line = true ∧
    isPosition passing.line 0#8 = false ∧ passing.line.mode ≠ .bypass ∧
    1 ≤ (1#8 : Byte).toNat ∧ (62#8 : Byte).toNat ≤ 62 ∧ 63 ≤ (63#8 : Byte).toNat ∧ 63 ≤ (255#8 : Byte).toNat ∧
    listening crowded ∧ crowded.line.mode ≠ .bypass ∧ isPosition crowded.line 0#8 = false ∧
    controlRoom crowded.line = false := by decide +kernel

/-- The station's own strap identity in BYPASS with seven records waiting, on the STORED path and on the THROUGH path. -/
theorem witness_join_without_room :
    listening { crowded with line.mode := .bypass, line.position := none } ∧
    controlRoom ({ crowded with line.mode := .bypass, line.position := none } : State).line = false ∧
    (3#8 : Byte).toNat = crowded.line.strap.toNat ∧ ([3#8] : List Byte).length ≤ 319 ∧
    listening { crowded with line.mode := .bypass, line.position := none, line.path := .through } := by decide +kernel

/-- The station's own strap identity on both paths in BYPASS; in PASS to ALL and to the position; another identity. -/
theorem witness_join :
    listening bypassed ∧ bypassed.line.mode = .bypass ∧ controlRoom bypassed.line = true ∧
    (3#8 : Byte).toNat = bypassed.line.strap.toNat ∧ bypassed.line.path = .stored ∧
    delivered passing 5#8 0#8 ∧ delivered convert 63#8 0#8 ∧ (3#8 : Byte).toNat = convert.line.strap.toNat ∧
    (2#8 : Byte).toNat ≠ convert.line.strap.toNat := by decide +kernel

/-- A free port on the STORED path: a control record; the credit left and used up, the burst count below and at its limit,
with forwarded records and without. -/
theorem witness_arbiter :
    ({ convert with line.path := .through } : State).line.path = .through ∧
    arbiter.line.path = .stored ∧ arbiter.line.sending = none ∧ arbiter.line.control = [] ∧
    crowded.line.control = item :: List.replicate 6 item ∧ crowded.line.path = .stored ∧ ({ crowded with line.sending := none } : State).line.sending = none ∧
    arbiter.output.queue = ins 3 :: queueOf 4 2 ∧
    arbiter.output.inFlight.length < arbiter.command.settings.creditLimit ∧ arbiter.output.held = false ∧
    ({ arbiter with line.burst := 1 } : State).line.burst < arbiter.command.settings.burstLimit ∧
    arbiter.line.forward = rec1 :: [rec1] ∧
    arbiter.command.settings.burstLimit ≤ ({ arbiter with line.burst := 2 } : State).line.burst ∧
    sent.line.forward = [] ∧ sent.output.queue = [] ∧ sent.line.path = .stored ∧ ({ sent with line.sending := none } : State).line.sending = none ∧
    sent.line.control = [] := by decide +kernel

/-- A payload of 320 bytes, and bytes that make a good record. -/
theorem witness_record_bytes :
    (⟨0x10#8, 9#8, 1#8, longPayload.take 320⟩ : Record).payload.length ≤ 320 ∧
    parseRecord (recordBytes rec1) = some rec1 := by decide +kernel

/-- PASS; CONVERT at rest; CONVERT with work; another byte. -/
theorem witness_set_mode :
    delivered passing 5#8 0#8 ∧ passing.line.mode = .pass ∧ delivered convert 5#8 0#8 ∧ convert.line.mode = .convert ∧
    (convert.matching.hold = [] ∧ convert.output.queue = [] ∧ convert.output.inFlight = [] ∧ convert.output.jam = none) ∧
    delivered sent 63#8 0#8 ∧ sent.line.mode = .convert ∧ sent.output.inFlight ≠ [] ∧ (0#8 : Byte) ≠ 1#8 ∧ (0#8 : Byte) ≠ 2#8 := by
  decide +kernel

theorem witness_reset_and_leave : delivered tracking 5#8 0#8 ∧ delivered passing 63#8 0#8 := by decide +kernel

/-- The three loads of one operand length, in PASS. -/
theorem witness_loads :
    delivered passing 5#8 0#8 ∧ passing.line.mode = .pass ∧ repairLoad.length = 130 ∧ load3.length = 36 ∧
    (words (List.replicate 64 0xF900)).length = 128 := by decide +kernel

/-- Load 2 meets the fourth condition after clamping, load 3 none. -/
theorem witness_load_settings :
    min (wordAt load2 15) 24 ≤ min (wordAt load2 16) 23 ∧
    inconsistency (after (.loadSettings 5#8 0#8 load3) passing).command.settings = 0 := by decide +kernel

/-- Eight placements, the last bad; none. -/
theorem witness_load_fields :
    (8#8 : Byte).toNat ≤ 8 ∧
    ((List.replicate 7 [0#8, 1#8, 1#8, 0#8]).flatten ++ [0#8, 81#8, 1#8, 0#8] : List Byte).length = 4 * (8#8 : Byte).toNat ∧
    ¬((((List.replicate 7 [0#8, 1#8, 1#8, 0#8]).flatten ++ [0#8, 81#8, 1#8, 0#8] : List Byte).getD (4 * 7 + 1) 0#8).toNat ≤ 80) ∧
    (∀ j, j < 7 → ((((List.replicate 7 [0#8, 1#8, 1#8, 0#8]).flatten ++ [0#8, 81#8, 1#8, 0#8] : List Byte).getD (4 * j + 1)
      0#8).toNat = 1)) ∧
    (0#8 : Byte).toNat ≤ 8 ∧ ([] : List Byte).length = 4 * (0#8 : Byte).toNat := by decide +kernel

def rawEntry : RawEntry := { drawing := text "A-1044", revision := text "C", sheetCount := 2, title := [] }

/-- 64 entries from 65535 on; the operand of the worked append. -/
theorem witness_append_operand :
    65535 < 65536 ∧ (List.replicate 64 rawEntry).length ≤ 64 ∧
    (∀ e ∈ List.replicate 64 rawEntry,
      e.drawing.length ≤ 255 ∧ e.revision.length ≤ 255 ∧ e.sheetCount ≤ 255 ∧ e.title.length ≤ 255) ∧
    (readAppend append4).isSome = true := by decide +kernel

/-- The worked append's second entry alone, after 1001 and on an empty list. -/
def append1 : List Byte := be16 1001 ++ [1#8] ++ entryBytes rawEntry

theorem witness_append_accepted :
    delivered listed 5#8 0#8 ∧ haltLaw listed ∧ append1.length ≤ 319 ∧ readAppend append1 = some (1001, [rawEntry]) ∧
    (∀ e ∈ [rawEntry], 1 ≤ e.drawing.length ∧ e.drawing.length ≤ 24 ∧ e.revision.length ≤ 3 ∧ e.title.length ≤ 40 ∧
      1 ≤ e.sheetCount ∧ e.sheetCount ≤ 32) ∧
    listed.list.expected = some 1001 ∧ listed.list.entries.length + [rawEntry].length ≤ 256 ∧
    listed.matching.drawing = none := by decide +kernel

/-- A drawing that waits for its entry (3.5, step 8). -/
def waiting : State := { holding [looseSlot] (some loose7) with output.halt.list := true }

theorem witness_append_binds :
    delivered waiting 63#8 0#8 ∧ haltLaw waiting ∧ waiting.list.expected = none ∧ waiting.list.entries = [] ∧
    waiting.matching.drawing = some loose7 ∧ loose7.entry = none := by decide +kernel

/-- No whole entries; an entry without a drawing number after a good one; another expected number; no space. -/
def fullList : State := { convert with list.entries := List.replicate 256 entry1002, list.expected := some 1001 }

theorem witness_append_refused :
    delivered listed 5#8 0#8 ∧ readAppend [0#8] = none ∧
    readAppend (be16 1001 ++ [2#8] ++ entryBytes rawEntry ++ entryBytes { rawEntry with drawing := [] }) =
      some (1001, [rawEntry] ++ { rawEntry with drawing := [] } :: []) ∧
    listed.list.expected = some 1001 ∧ 1001 ≠ 1003 ∧
    readAppend (be16 1003 ++ append1.drop 2) = some (1003, [rawEntry]) ∧
    delivered fullList 5#8 0#8 ∧ fullList.list.expected = some 1001 ∧
    256 < fullList.list.entries.length + [rawEntry].length := by decide +kernel

theorem witness_flush :
    delivered convert 5#8 0#8 ∧ haltLaw convert ∧ convert.matching.drawing = none ∧
    delivered (holding [slot21] (some (bound7 1))) 5#8 0#8 ∧ haltLaw (holding [slot21] (some (bound7 1))) ∧
    delivered waiting 63#8 0#8 ∧ haltLaw waiting ∧ waiting.matching.drawing = some loose7 := by decide +kernel

/-- Not HELD; HELD on 25 instructions and on 24. -/
theorem witness_resume :
    delivered convert 5#8 0#8 ∧ convert.output.held = false ∧ delivered jammed 5#8 0#8 ∧ jammed.output.held = true ∧
    jammed.output.jam = some (ins 301) ∧ 25 ≤ (queueOf 303 25).length ∧ (queueOf 303 24).length < 25 := by decide +kernel

theorem witness_queries : delivered listed 5#8 0#8 ∧ delivered tracking 63#8 0#8 := by decide +kernel

theorem witness_status_layout : (0, 1, 2) ∈ statusTable convert ∧
    (145, 1, 0) ∈ statusTable convert := by decide +kernel

theorem witness_event_commands :
    delivered eventful 5#8 0#8 ∧ delivered { eventful with line.control := List.replicate 5 item } 5#8 0#8 := by decide +kernel

/-- An unknown code; a length beside the command's own; a load in CONVERT; a choice and an option that name nothing. -/
theorem witness_refused :
    recordOf (.unknownCommand 5#8 0#8 0x99#8 []) = some ⟨0x40#8, 5#8, 0#8, [0x99#8]⟩ ∧ delivered passing 5#8 0#8 ∧
    recordOf (.leave 5#8 0#8 [0#8]) = some ⟨0x40#8, 5#8, 0#8, [0x02#8, 0#8]⟩ ∧
    recordOf (.loadFields 5#8 0#8 [9#8]) = some ⟨0x40#8, 5#8, 0#8, [0x13#8, 9#8]⟩ ∧ 8 < (9#8 : Byte).toNat ∧
    delivered convert 5#8 0#8 ∧ convert.line.mode = .convert ∧
    recordOf (.loadSettings 5#8 0#8 load3) = some ⟨0x40#8, 5#8, 0#8, 0x11#8 :: load3⟩ ∧ load3.length = 36 ∧
    recordOf (.loadFields 5#8 0#8 [0#8]) = some ⟨0x40#8, 5#8, 0#8, [0x13#8, 0#8]⟩ ∧ [0#8].length = 1 + 4 * ([0#8].headD (0#8 : Byte)).toNat ∧
    recordOf (.resumeOutput 5#8 0#8 [0#8]) = some ⟨0x40#8, 5#8, 0#8, [0x29#8, 0#8]⟩ ∧
    recordOf (.readCounters 5#8 0#8 [2#8]) = some ⟨0x40#8, 5#8, 0#8, [0x31#8, 2#8]⟩ := by decide +kernel

/-- A frame in assembly, LOST, and each further state. -/
theorem witness_reel :
    converting tracking 1#8 ∧ tracking.tracker.state ≠ .idle ∧ converting (trackerIn .lost) 1#8 ∧
    (trackerIn .lost).tracker.state = .lost ∧ converting convert 1#8 := by decide +kernel

/-- IDLE; FULL; a duplicate; no frame in assembly. -/
theorem witness_ignored :
    converting convert 1#8 ∧ haltLaw convert ∧ trackerLaw convert ∧ convert.tracker.state = .idle ∧
    converting (trackerIn .full) 1#8 ∧ haltLaw (trackerIn .full) ∧ trackerLaw (trackerIn .full) ∧
    (trackerIn .full).tracker.state = .full ∧ converting (trackerIn .rewound) 1#8 ∧ haltLaw (trackerIn .rewound) ∧
    trackerLaw (trackerIn .rewound) ∧ (trackerIn .rewound).tracker.lastMark = some (12000#24).toNat ∧
    (trackerIn .rewound).tracker.assembly = none ∧ (longPayload.take 320).length ≤ 320 := by
  and_intros <;> decide +kernel

theorem witness_mark_starts :
    converting (trackerIn .tracking) 1#8 ∧ haltLaw (trackerIn .tracking) ∧ (trackerIn .tracking).tracker.assembly = none ∧
    (trackerIn .tracking).tracker.lastMark = some 12000 ∧ 12000 < (12001#24).toNat ∧
    converting (trackerIn .acquire) 1#8 ∧ haltLaw (trackerIn .acquire) ∧ (trackerIn .acquire).tracker.assembly = none := by
  decide +kernel

/-- Pitches at pitch_min less one, pitch_min, pitch_max, twice it, and one more; both ways of a mismatch; checking OFF. -/
theorem witness_closed_frame :
    tracking.tracker.reel = some reel17 ∧ tracking.tracker.pitchChecking = true ∧
    (closedFrame (.counters 299) { mark := .doc, counter := 5, lines := 60, lineOverflow := false } tracking).pitchClass = .sliver ∧
    (closedFrame (.counters 300) { mark := .doc, counter := 5, lines := 60, lineOverflow := false } tracking).pitchClass = .normal ∧
    (closedFrame (.counters 600) { mark := .doc, counter := 5, lines := 114, lineOverflow := false } tracking).suspect = false ∧
    (closedFrame (.counters 601) { mark := .doc, counter := 5, lines := 114, lineOverflow := false } tracking).pitchClass = .long ∧
    (closedFrame (.counters 601) { mark := .doc, counter := 5, lines := 114, lineOverflow := false } tracking).suspect = true ∧
    (closedFrame (.counters 1200) { mark := .doc, counter := 5, lines := 0, lineOverflow := false } tracking).pitchClass = .long ∧
    (closedFrame (.counters 1201) { mark := .doc, counter := 5, lines := 0, lineOverflow := false } tracking).pitchClass = .gap := by
  decide +kernel

/-- The frame that the mark at 12450 closes. -/
def closing (s : State) : ClosedFrame :=
  closedFrame (.counters (12450 - 12000)) { mark := .sheet, counter := 12000, lines := 90, lineOverflow := false } s

/-- A frame accepted, and one refused. -/
theorem witness_mark_closes :
    converting tracking 1#8 ∧ tracking.tracker.state = .tracking ∧ tracking.tracker.lastMark = some 12000 ∧
    12000 < (12450#24).toNat ∧ tracking.tracker.frameCounter < 65535 ∧
    (takeFrame (closing tracking) (afterClose (closing tracking) (sorted tracking))).isSome = true ∧
    converting fullHold 1#8 ∧ fullHold.tracker.state = .tracking ∧ fullHold.tracker.lastMark = some 12000 ∧
    takeFrame (closing fullHold) (afterClose (closing fullHold) (sorted fullHold)) = none := by decide +kernel

/-- The same mark in ACQUIRE; on an exhausted frame counter in TRACKING and in ACQUIRE. -/
theorem witness_mark_closes_otherwise :
    converting { tracking with tracker.state := .acquire } 1#8 ∧
    ({ tracking with tracker.state := .acquire } : State).tracker.assembly.isSome = true ∧
    converting { tracking with tracker.frameCounter := 65535 } 1#8 ∧
    ({ tracking with tracker.frameCounter := 65535 } : State).tracker.state = .tracking ∧
    converting { tracking with tracker.frameCounter := 65535, tracker.state := .acquire } 1#8 := by decide +kernel

def lostState : State := { trackerIn .lost with output.halt.lost := true }

theorem witness_rewind :
    converting tracking 1#8 ∧ haltLaw tracking ∧ trackerLaw tracking ∧ (11999#24).toNat < 12000 ∧
    converting (trackerIn .rewound) 1#8 ∧ (12001#24).toNat ≠ 12000 ∧
    haltLaw (trackerIn .rewound) ∧ trackerLaw (trackerIn .rewound) ∧
    converting lostState 1#8 ∧ haltLaw lostState ∧ trackerLaw lostState ∧ lostState.tracker.state = .lost := by
  and_intros <;> decide +kernel

/-- A bad payload; one for the 256th line, and for the 257th. -/
theorem witness_scan :
    converting tracking 1#8 ∧ tracking.tracker.state ≠ .idle ∧ tracking.tracker.state ≠ .full ∧
    tracking.tracker.reel = some reel17 ∧ readScan .w12 [7#8] = none ∧
    (readScan .w12 (8#8 :: words [1, 2, 3, 4, 5, 6, 7, 8])).isSome = true ∧ 255 < 256 := by decide +kernel

theorem witness_scan_payload :
    8 ≤ (List.replicate 8 (0#16)).length ∧ (List.replicate 64 (0#16)).length ≤ 64 ∧
    8 ≤ (List.replicate 9 (0#8)).length ∧ (List.replicate 63 (0#8)).length ≤ 64 := by decide

theorem witness_sample : tableLaw State.reset ∧ 65535 < 65536 := by decide +kernel

/-- No sample, and the worked frame at the least count of 118. -/
theorem witness_frame_result :
    accumulatorLaw emptyAccumulators ∧ emptyAccumulators.n < defaultSettings.nMin ∧ 1 ≤ defaultSettings.nMin ∧
    accumulatorLaw tracking.density.acc ∧ 118 ≤ tracking.density.acc.n := by decide +kernel

/-- A third normal frame; the 64th; one that breaks the run; one that joins. -/
def acquiring (held count : Nat) : State :=
  let s := trackerIn .acquire
  { s with tracker.buffer := (List.range held).map (fun k => frame (38 + k) .doc), tracker.closeCount := count }

theorem witness_acquisition :
    (acquiring 2 2).tracker.state = .acquire ∧
    (acquire .live (frame 40 .doc) (acquiring 2 2)).command.counters.lostFrames = (acquiring 2 2).command.counters.lostFrames ∧
    (acquiring 2 2).command.counters.lostFrames < 65535 ∧ 2 ≤ (acquiring 2 2).tracker.buffer.length ∧
    (acquire .live (frame 40 .doc) (acquiring 1 63)).command.counters.lostFrames = 0 ∧ 64 ≤ (acquiring 1 63).tracker.closeCount + 1 ∧
    (acquire .live { frame 40 .doc with suspect := true } (acquiring 1 62)).command.counters.lostFrames = 0 ∧
    (acquiring 1 62).tracker.closeCount + 1 < 64 ∧ (acquiring 1 62).tracker.buffer.length < 2 := by decide +kernel

/-- A falling mark in ACQUIRE with two frames in the buffer. -/
theorem witness_reversal_in_acquire :
    converting (acquiring 2 2) 1#8 ∧ haltLaw (acquiring 2 2) ∧ trackerLaw (acquiring 2 2) ∧
    (acquiring 2 2).tracker.lastMark = some 12000 ∧ (11999#24).toNat ≠ 12000 ∧ (11999#24).toNat < 12000 := by
  and_intros <;> decide +kernel

/-- Hand-over of a frame that is accepted, and of one that is refused. -/
theorem witness_hand_over :
    (takeFrame (frame 40 .doc) tracking).isSome = true ∧ takeFrame (frame 40 .doc) fullHold = none := by decide +kernel

theorem witness_flush_expiry :
    tracking.matching.flushTimer = none ∧ ({ tracking with matching.flushTimer := some 0 } : State).matching.flushTimer ≠ none ∧
    trackerLaw { tracking with matching.flushTimer := some 0 } := by decide +kernel

/-- 31 slots; 32 slots and 23 instructions; 32 slots and 24; a number that does not pass the tail's. -/
theorem witness_frame_room :
    (holding ((List.range 31).map (fun k => wasteSlot (k + 1))) none).matching.hold.length < 32 ∧
    takeFrame (frame 40 .doc) (holding ((List.range 31).map (fun k => wasteSlot (k + 1))) none) ≠ none ∧
    takeFrame (frame 40 .doc) { fullHold with output.queue := queueOf 1 23 } ≠ none ∧
    fullHold.matching.hold = wasteSlot 1 :: (List.range 31).map (fun k => wasteSlot (k + 2)) ∧
    takeFrame (frame 40 .doc) fullHold = none ∧ takeFrame (frame 32 .doc) { fullHold with output.queue := [] } = none := by
  decide +kernel

theorem witness_waste :
    ({ frame 1 .doc with leader := true } : ClosedFrame).leader = true ∧ (frame 1 .target).mark = .target := by decide

/-- DOC; SHEET with no drawing open; UNKNOWN with no sheets remaining; with an entry and without. -/
theorem witness_document_start :
    (frame 40 .doc).leader = false ∧ (frame 40 .doc).pitchClass ≠ .sliver ∧ (frame 40 .doc).mark ≠ .target ∧
    (frame 40 .doc).result.cls ≠ .blank ∧ tracking.matching.drawing = none ∧ entry1002.sheetCount ≤ (bound7 2).sheetsSeen ∧
    (closeDrawing listed).list.entries = { entry1002 with listNumber := 999 } :: [{ entry1002 with listNumber := 1000 }] ∧
    (closeDrawing tracking).list.entries = [] := by decide +kernel

/-- The last sheet of two, and one more. -/
theorem witness_further_sheet :
    (holding [slot21] (some (bound7 1))).matching.drawing = some (bound7 1) ∧ (bound7 1).sheetsSeen < entry1002.sheetCount ∧
    entry1002.sheetCount ≤ (bound7 2).sheetsSeen ∧ (frame 40 .sheet).mark = .sheet := by decide

/-- A target in an open drawing and in the recent one; none for an open, a bound recent, an unbound recent, and no drawing. -/
theorem witness_retake :
    (holding [slot21, slot22] (some (bound7 2))).matching.drawing = some (bound7 2) ∧
    [slot21, slot22] = [slot21] ++ slot22 :: [] ∧ isCardOf 7 slot22 = true ∧
    (∀ x ∈ ([] : List Slot), isCardOf 7 x = false) ∧ (∀ x ∈ [wasteSlot 1], isCardOf 7 x = false) ∧
    ({ tracking with matching.recent := some (bound7 2) } : State).matching.drawing = none ∧
    (bound7 2).entry = some entry1002 ∧ loose7.entry = none ∧ tracking.matching.recent = none := by decide +kernel

/-- Complete; short with a slot held and with none; unbound. -/
theorem witness_drawing_closes :
    (bound7 2).entry = some entry1002 ∧ entry1002.sheetCount ≤ (bound7 2).sheetsSeen ∧
    (bound7 1).sheetsSeen < entry1002.sheetCount ∧ [slot21, wasteSlot 22] = [] ++ slot21 :: [wasteSlot 22] ∧
    isCardOf 7 slot21 = true ∧ (∀ x ∈ [wasteSlot 22], isCardOf 7 x = false) ∧ loose7.entry = none := by decide +kernel

/-- A releasable head with room; one of the open drawing; one that finds 24 instructions. -/
theorem witness_release_head :
    (holding [slot21] none).matching.hold = slot21 :: [] ∧ isReleasable (holding [slot21] none).matching slot21 = true ∧
    isReleasable (holding [slot21] (some (bound7 1))).matching slot21 = false ∧
    ¬({ holding [slot21] none with output.queue := queueOf 1 24 } : State).output.queue.length < 24 := by decide

theorem witness_release : (holding [slot21] none).output.nextSeq < 65536 ∧
    (holding [slot21] none).matching.hold.length = 1 := by decide

theorem witness_card_fits :
    composerLaw convert ∧ (wasteSlot 1).body = .waste .blank ∧
    slot22.body = .card (.bound entry1002 7 2) { retake := true } := by decide +kernel

/-- Sheets 1 and 32; the three bindings; both kinds of instruction. -/
theorem witness_card_fields :
    (Binding.bound { entry1002 with sheetCount := 32 } 7 32) = .bound { entry1002 with sheetCount := 32 } 7 32 ∧ 32 ≤ 32 ∧
    looseSlot.body = .card (.unbound 7 1) {} ∧ (∃ cause, Binding.except .extra = .except cause) ∧
    (ins 1).body = .waste .target ∧
    (match (render defaultSettings powerOnComposer 322 slot22).body with | .card .. => true | .waste _ => false) = true :=
  ⟨rfl, by decide, rfl, ⟨_, rfl⟩, rfl, by decide +kernel⟩

/-- A placement from column 1 to 80, and one of the single column 80, over the default map. -/
theorem witness_placement :
    (∀ q ∈ defaultFieldMap, placementLaw q) ∧ placementLaw { field := .title, first := 1, width := 80, justify := .right } ∧
    placementLaw { field := .note, first := 80, width := 1, justify := .left } := by decide

/-- A stray in PASS; a report past an older entry; with the jam record empty and occupied. -/
theorem witness_mounter :
    listening passing ∧ passing.line.mode = .pass ∧ isPosition passing.line 8#8 = false ∧ isPosition passing.line 5#8 = true ∧
    listening sent ∧ sent.line.mode = .convert ∧ sent.output.inFlight = [flight 211 21] ++ flight 212 22 :: [flight 213 23, flight 214 32] ∧
    (flight 212 22).instruction.seq = (212#16).toNat ∧ (∀ x ∈ [flight 211 21], x.instruction.seq ≠ (212#16).toNat) ∧
    sent.output.jam = none ∧ ({ sent with output.jam := some (ins 1) } : State).output.jam ≠ none ∧
    (∀ e ∈ sent.output.inFlight, e.instruction.seq ≠ (210#16).toNat) := by decide +kernel

/-- Lengths at stop_level, at go_level and between. -/
theorem witness_halt :
    settingsLaw convert ∧ convert.command.settings.stopLevel ≤ (queueOf 1 16).length ∧
    (queueOf 1 8).length ≤ convert.command.settings.goLevel ∧ convert.command.settings.goLevel < (queueOf 1 9).length ∧
    (queueOf 1 15).length < convert.command.settings.stopLevel ∧ haltHas convert.output.halt .lost = false := by decide +kernel

/-- A working state in which a command runs and every law holds. -/
def lawfulState : State := { holding [slot21] (some (bound7 1)) with pending := [.mark 66#8 1#8 1#8 12450#24] }

theorem witness_laws :
    (tableLaw lawfulState ∧ settingsLaw lawfulState ∧ composerLaw lawfulState ∧ accumulatorLaw lawfulState.density.acc) ∧
    (positionLaw lawfulState ∧ runLaw lawfulState ∧ signalLaw lawfulState ∧ settledLaw lawfulState ∧ forwardLaw lawfulState ∧ controlLaw lawfulState) ∧
    (quietLaw lawfulState ∧ queueLaw lawfulState ∧ creditLaw lawfulState ∧ hysteresisLaw lawfulState ∧ haltLaw lawfulState) ∧
    (holdLaw lawfulState ∧ releasedLaw lawfulState ∧ listLaw lawfulState ∧ drawingLaw lawfulState) ∧
    (trackerLaw lawfulState ∧ timerLaw lawfulState) := by
  refine ⟨?_, ?_, ?_, ?_, ?_⟩ <;> decide +kernel

theorem witness_laws_step : ∃ t, step lawfulState = .next t := ⟨_, rfl⟩

theorem witness_frame_count :
    ({ lawfulState with command.counters.framesAccepted := 1 } : State).command.counters.framesAccepted =
      lawfulState.command.counters.cards + lawfulState.command.counters.wastes + lawfulState.matching.hold.length := by
  decide

end Sys2Proof.Tests
end

section
/-! What a closing frame becomes (R16 to R20, R44, R47): the functions that `closedFrame` is built from, the effect of
`afterClose` on the parts it touches, and the obligation O33 assembled from them. -/

namespace Sys2Proof.Machine

/-! The items of the frame. -/

theorem reelInForce_of_reel {t : FrameTracker} {r : ReelParams} (h : t.reel = some r) : reelInForce t = r := by
  simp [reelInForce, h]

/-- The result carries the overflow mark of its accumulators, measured or not (R42, R44). -/
@[simp] theorem densityResult_overflow (v : Settings) (p : Polarity) (a : Accumulators) :
    (densityResult v p a).overflow = a.overflow := by
  unfold densityResult
  split <;> rfl

theorem lt_distance_iff (tol a b : Nat) : tol < distance a b ↔ b + tol < a ∨ a + tol < b := by
  unfold distance
  omega

/-- The cross-check of a pitch from counters (R18). -/
theorem isMismatch_counters_iff (checking : Bool) (v : Settings) (c : Nat) (a : Assembly) (linePitch : Nat) :
    isMismatch checking v (.counters c) a linePitch = true ↔
      checking = true ∧ (a.lines * linePitch + v.trackTol < c ∨ c + v.trackTol < a.lines * linePitch) := by
  simp [isMismatch, lt_distance_iff]

/-! The rows of the pitch classes (R17). -/

section
variable {v : Settings} {pitch : Nat}

theorem pitchClassOf_unchecked : pitchClassOf false v pitch = .unchecked := rfl

theorem pitchClassOf_sliver (h : pitch < v.pitchMin) : pitchClassOf true v pitch = .sliver := by
  simp [pitchClassOf, h]

theorem pitchClassOf_normal (hmin : v.pitchMin ≤ pitch) (hmax : pitch ≤ v.pitchMax) :
    pitchClassOf true v pitch = .normal := by
  simp [pitchClassOf, hmin.not_gt, hmax]

theorem pitchClassOf_long (hmin : v.pitchMin ≤ pitch) (hmax : v.pitchMax < pitch) (htwice : pitch ≤ 2 * v.pitchMax) :
    pitchClassOf true v pitch = .long := by
  simp [pitchClassOf, hmin.not_gt, hmax.not_ge, htwice]

/-- Beyond twice pitch_max the pitch is beyond pitch_max, so the two rows before GAP fail. -/
theorem pitchClassOf_gap (hmin : v.pitchMin ≤ pitch) (htwice : 2 * v.pitchMax < pitch) :
    pitchClassOf true v pitch = .gap := by
  have hmax : v.pitchMax < pitch := by omega
  simp [pitchClassOf, hmin.not_gt, hmax.not_ge, htwice.not_ge]

end

/-! The state after the close. -/

@[simp] theorem pitchEvent_tracker (c : PitchClass) (s : State) : (pitchEvent c s).tracker = s.tracker := by
  cases c <;> simp [pitchEvent]

@[simp] theorem pitchEvent_density (c : PitchClass) (s : State) : (pitchEvent c s).density = s.density := by
  cases c <;> simp [pitchEvent]

/-- A sliver latches SLIVER, a gap MISSED_MARK, and the other classes nothing (R17). -/
theorem pitchEvent_command_latched (c : PitchClass) (s : State) :
    (pitchEvent c s).command.latched = s.command.latched |||
      (if c = .sliver then eventBit .sliver else if c = .gap then eventBit .missedMark else 0#24) := by
  cases c <;> simp [pitchEvent]

/-- A close numbers the frame and takes it out of assembly; its events leave the tracker alone (R16). -/
theorem afterClose_tracker (f : ClosedFrame) (s : State) :
    (afterClose f s).tracker = { s.tracker with frameCounter := f.number, assembly := none } := by
  unfold afterClose
  dsimp only
  split <;> simp

/-- A close empties the accumulators and records the result (R44, R47). -/
theorem afterClose_density (f : ClosedFrame) (s : State) :
    (afterClose f s).density = { s.density with acc := emptyAccumulators, last := some f.result } := by
  unfold afterClose
  dsimp only
  split <;> simp

/-- A close latches the event of the pitch class, and TRACK_MISMATCH for a suspect frame (R17, R18). -/
theorem afterClose_command_latched (f : ClosedFrame) (s : State) :
    (afterClose f s).command.latched = s.command.latched |||
      (if f.pitchClass = .sliver then eventBit .sliver
        else if f.pitchClass = .gap then eventBit .missedMark else 0#24) |||
      (if f.suspect then eventBit .trackMismatch else 0#24) := by
  unfold afterClose
  dsimp only
  split <;> simp [pitchEvent_command_latched]

end Sys2Proof.Machine

namespace Sys2Proof.Proofs

open Sys2Proof.Machine

/-- Settles O33: the items by the source of the pitch and by the rows of R17, the effects by the three `afterClose` rules. -/
theorem closedFrameItems : Obligations.ClosedFrameItems := by
  unfold Obligations.ClosedFrameItems
  intro p a r s hreel
  have hforce := reelInForce_of_reel hreel
  refine ⟨?reelNumber, rfl, rfl, rfl, rfl, ?result, ?overflow, ?estimatedFlag, ?estimated, ?counters, ?unchecked, ?checked,
    afterClose_tracker _ _, afterClose_density _ _, afterClose_command_latched _ _⟩
  case reelNumber => simp [closedFrame, hforce]
  case result => simp [closedFrame, hforce]
  case overflow => simp [closedFrame]
  case estimatedFlag => simp [closedFrame]
  case estimated =>
    rintro rfl
    exact ⟨by simp [closedFrame, pitchOf, hforce], rfl⟩
  case counters =>
    rintro c rfl
    exact ⟨rfl, by simp [closedFrame, hforce, isMismatch_counters_iff]⟩
  case unchecked =>
    intro hoff
    simp only [closedFrame, hoff, pitchClassOf_unchecked]
  case checked =>
    intro hon
    simp only [closedFrame, hon]
    exact ⟨pitchClassOf_sliver, pitchClassOf_normal, pitchClassOf_long, pitchClassOf_gap⟩

end Sys2Proof.Proofs
end

section
/-! The density unit (R33, R40, R42, R44 to R46): the interpolated density within its segment of the table, the three ways
of a sample, and the frame result below and from n_min on, with the obligations O38 and O39 assembled from them. -/

namespace Sys2Proof.Machine

/-! The density of a sample (R40). -/

section
variable {table : List Nat}

/-- Beyond the end of a table the default point 0 keeps the order of its points (R35). -/
theorem getD_succ_le_of_nonincreasing (h : table.Pairwise (fun a b => b ≤ a)) (i : Nat) :
    table.getD (i + 1) 0 ≤ table.getD i 0 := by
  by_cases hi : i + 1 < table.length
  · have hi' : i < table.length := by omega
    rw [List.getD_eq_getElem _ _ hi, List.getD_eq_getElem _ _ hi']
    exact List.pairwise_iff_getElem.mp h i (i + 1) hi' hi i.lt_succ_self
  · simp [List.getElem?_eq_none (Nat.le_of_not_lt hi)]

theorem getD_le_of_forall_le {bound : Nat} (h : ∀ v ∈ table, v ≤ bound) (i : Nat) : table.getD i 0 ≤ bound := by
  by_cases hi : i < table.length
  · rw [List.getD_eq_getElem _ _ hi]
    exact h _ (List.getElem_mem hi)
  · simp [List.getElem?_eq_none (Nat.le_of_not_lt hi)]

/-- Less than a whole segment, rounded half up, is no more than the drop over the segment (R40). -/
theorem roundedPart_le_drop {drop f : Nat} (hf : f < 1024) : (drop * f + 512) / 1024 ≤ drop := by
  have hpart : drop * f ≤ drop * 1023 := Nat.mul_le_mul_left drop (by omega)
  omega

theorem sampleDensity_le_point (table : List Nat) (s : Nat) : sampleDensity table s ≤ table.getD (s / 1024) 0 :=
  Nat.sub_le _ _

theorem nextPoint_le_sampleDensity (h : table.Pairwise (fun a b => b ≤ a)) (s : Nat) :
    table.getD (s / 1024 + 1) 0 ≤ sampleDensity table s := by
  have hnext := getD_succ_le_of_nonincreasing h (s / 1024)
  have hpart := roundedPart_le_drop (drop := table.getD (s / 1024) 0 - table.getD (s / 1024 + 1) 0)
    (Nat.mod_lt s (by decide : 0 < 1024))
  dsimp only [sampleDensity]
  omega

end

/-! The ways of a sample (R33, R42). -/

section
variable {x : Sample} {s : State}

theorem isCounted_eq_false_iff {v : Settings} : isCounted v x = false ↔ x.invalid = true ∧ v.countInvalid = false := by
  simp [isCounted]

theorem takeSample_of_not_counted (h : isCounted s.command.settings x = false) : takeSample x s = s := by
  simp [takeSample, h]

theorem takeSample_of_lt_cap (h : isCounted s.command.settings x = true) (hcap : s.density.acc.n < 8192) :
    takeSample x s =
      { s with density.acc := accumulate (sampleDensity s.density.table x.value) s.density.acc } := by
  simp [takeSample, h, sampleCap, hcap]

theorem takeSample_of_cap_le (h : isCounted s.command.settings x = true) (hcap : 8192 ≤ s.density.acc.n) :
    takeSample x s = occur .sampleOverflow { s with density.acc.overflow := true } := by
  simp [takeSample, h, sampleCap, hcap.not_gt]

/-- The first density is both extremes, since it stands for an extreme that is none (R42). -/
theorem accumulate_eq (d : Nat) (a : Accumulators) :
    accumulate d a =
      { n := a.n + 1, sum := a.sum + d, dmin := some (min (a.dmin.getD d) d), dmax := some (max (a.dmax.getD d) d)
        overflow := a.overflow } := by
  obtain ⟨n, sum, dmin, dmax, overflow⟩ := a
  cases dmin <;> cases dmax <;> simp [accumulate]

end

/-! The frame result (R44 to R46). -/

section
variable {v : Settings} {p : Polarity} {a : Accumulators}

/-- Accumulators with a sample have both extremes, and their sum lies between n times each (R42). -/
theorem accumulatorLaw_extremes (h : Safety.accumulatorLaw a) (hn : 0 < a.n) :
    ∃ lo hi, a.dmin = some lo ∧ a.dmax = some hi ∧ a.n * lo ≤ a.sum ∧ a.sum ≤ a.n * hi ∧ hi ≤ 400 := by
  obtain ⟨-, hmin, hmax, -, hlo, hhi⟩ := h
  obtain ⟨lo, hdmin⟩ := Option.ne_none_iff_exists'.mp (mt hmin.mpr hn.ne')
  obtain ⟨hi, hdmax⟩ := Option.ne_none_iff_exists'.mp (mt hmax.mpr hn.ne')
  exact ⟨lo, hi, hdmin, hdmax, hlo lo hdmin, hhi hi hdmax⟩

theorem le_meanDensity {lo : Nat} (hn : 0 < a.n) (h : a.n * lo ≤ a.sum) : lo ≤ meanDensity a := by
  rw [meanDensity, Nat.le_div_iff_mul_le hn, Nat.mul_comm]
  omega

/-- Rounding half up adds less than one to a mean of at most `hi` (R44). -/
theorem meanDensity_le {hi : Nat} (hn : 0 < a.n) (h : a.sum ≤ a.n * hi) : meanDensity a ≤ hi := by
  rw [meanDensity, ← Nat.lt_succ_iff, Nat.div_lt_iff_lt_mul hn, Nat.succ_mul, Nat.mul_comm]
  omega

/-- Either contrast is a distance below Dmean or Dmax (R45). -/
theorem contrastOf_le {dmin dmean dmax : Nat} (h : dmean ≤ dmax) : contrastOf p dmin dmean dmax ≤ dmax := by
  cases p
  case negative => exact (Nat.sub_le _ _).trans h
  case positive => exact Nat.sub_le _ _

@[simp] theorem densityResult_n (v : Settings) (p : Polarity) (a : Accumulators) : (densityResult v p a).n = a.n := by
  unfold densityResult
  split <;> rfl

theorem densityResult_of_lt (h : a.n < v.nMin) :
    densityResult v p a =
      { n := a.n, dmin := 0, dmean := 0, dmax := 0, contrast := 0, cls := .unmeasured, overflow := a.overflow } :=
  if_pos h

theorem densityResult_of_le {lo hi : Nat} (h : v.nMin ≤ a.n) (hmin : a.dmin = some lo) (hmax : a.dmax = some hi) :
    densityResult v p a =
      { n := a.n, dmin := lo, dmean := meanDensity a, dmax := hi, contrast := contrastOf p lo (meanDensity a) hi,
        cls := measuredClass v (contrastOf p lo (meanDensity a) hi) (meanDensity a), overflow := a.overflow } := by
  simp [densityResult, h.not_gt, hmin, hmax]

end

end Sys2Proof.Machine

namespace Sys2Proof.Proofs

open Sys2Proof.Machine

/-- Settles O38: the way of a sample by whether it is counted and by the cap, and its density from the law of the table. -/
theorem sampleTaken : Obligations.SampleTaken := by
  unfold Obligations.SampleTaken
  refine ⟨?way, ?bounds⟩
  case way =>
    intro x s
    dsimp only
    split
    next hleft => exact takeSample_of_not_counted (isCounted_eq_false_iff.mpr hleft)
    next hleft =>
      have hcounted : isCounted s.command.settings x = true :=
        Bool.eq_true_of_not_eq_false (mt isCounted_eq_false_iff.mp hleft)
      split
      next hbelow =>
        rw [takeSample_of_lt_cap hcounted hbelow, accumulate_eq]
        rfl
      next hcap => exact takeSample_of_cap_le hcounted (Nat.le_of_not_lt hcap)
  case bounds =>
    intro s value ⟨_, hmono, hmax⟩ _
    have hpoint := sampleDensity_le_point s.density.table value
    exact ⟨nextPoint_le_sampleDensity hmono value, hpoint, hpoint.trans (getD_le_of_forall_le hmax _)⟩

/-- Settles O39: below n_min by `densityResult_of_lt`; from n_min ≥ 1 on there is a sample, so the law gives the extremes
that bound the mean. -/
theorem frameResult : Obligations.FrameResult := by
  unfold Obligations.FrameResult
  intro v p a hlaw hpos
  refine ⟨densityResult_n v p a, densityResult_overflow v p a, ?unmeasured, ?measured⟩
  case unmeasured =>
    intro hfew
    simp [densityResult_of_lt hfew]
  case measured =>
    intro henough
    have hn : 0 < a.n := hpos.trans henough
    obtain ⟨lo, hi, hmin, hmax, hlo, hhi, hcap⟩ := accumulatorLaw_extremes hlaw hn
    have hmean : meanDensity a ≤ hi := meanDensity_le hn hhi
    rw [densityResult_of_le henough hmin hmax]
    exact ⟨hmin, hmax, rfl, rfl, le_meanDensity hn hlo, hmean, hcap, (contrastOf_le hmean).trans hcap, rfl⟩

end Sys2Proof.Proofs
end

section
/-! The close of a drawing (R72, R86, R87): the change of the newest slot that qualifies, what each kind of drawing does to
its held slots, and the obligation O47 assembled from them. -/

namespace Sys2Proof.Machine

/-! The newest slot that qualifies (R78, R86). -/

section
variable {p : Slot → Bool} (g : Slot → Slot)

theorem modifyNewest_of_none {hold : List Slot} (h : ∀ x ∈ hold, p x = false) : modifyNewest p g hold = hold := by
  induction hold with
  | nil => rfl
  | cons x xs ih =>
    obtain ⟨hx, hxs⟩ := List.forall_mem_cons.mp h
    simp [modifyNewest, hx, ih hxs]

/-- A slot that qualifies, with none newer that does, is the one changed: an older slot finds it behind itself. -/
theorem modifyNewest_append_cons {slot : Slot} {after : List Slot} (hslot : p slot = true)
    (hafter : ∀ x ∈ after, p x = false) (before : List Slot) :
    modifyNewest p g (before ++ slot :: after) = before ++ g slot :: after := by
  induction before with
  | nil =>
    have hnone : after.any p = false := List.any_eq_false.mpr fun x hx => by simp [hafter x hx]
    simp [modifyNewest, hslot, hnone]
  | cons x xs ih =>
    have hnewer : (xs ++ slot :: after).any p = true := List.any_eq_true.mpr ⟨slot, by simp, hslot⟩
    simp [modifyNewest, hnewer, ih]

end

/-! A slot of the closing drawing. -/

theorem withFlags_of_card {slot : Slot} {b : Binding} {f : SlotFlags} (g : SlotFlags → SlotFlags)
    (h : slot.body = .card b f) : withFlags g slot = { slot with body := .card b (g f) } := by
  simp [withFlags, h]

theorem makeException_of_card {slot : Slot} {b : Binding} {f : SlotFlags} (cause : ExceptionCause)
    (h : slot.body = .card b f) : makeException cause slot = { slot with body := .card (.except cause) f } := by
  simp [makeException, h]

theorem makeException_of_waste {slot : Slot} {reason : WasteReason} (cause : ExceptionCause)
    (h : slot.body = .waste reason) : makeException cause slot = slot := by
  simp [makeException, h]

/-! A bound drawing: complete; short with no slot held; short with a newest held slot (R86). -/

section
variable {s : State} {d : Drawing} {e : Entry}

theorem closeBound_of_complete (h : e.sheetCount ≤ d.sheetsSeen) : closeBound d e s = s :=
  if_neg h.not_gt

theorem closeBound_of_short_of_none (hshort : d.sheetsSeen < e.sheetCount)
    (hnone : ∀ x ∈ s.matching.hold, isCardOf d.serial x = false) : closeBound d e s = occur .missingSheet s := by
  simp [closeBound, hshort, modifyNewest_of_none _ hnone]

theorem closeBound_of_short_of_newest {before after : List Slot} {slot : Slot} {b : Binding} {f : SlotFlags}
    (hshort : d.sheetsSeen < e.sheetCount) (hhold : s.matching.hold = before ++ slot :: after)
    (hbody : slot.body = .card b f) (hslot : isCardOf d.serial slot = true)
    (hafter : ∀ x ∈ after, isCardOf d.serial x = false) :
    closeBound d e s = occur .missingSheet { s with
      matching.hold := before ++ { slot with body := .card b { f with short := true } } :: after } := by
  simp [closeBound, hshort, hhold, modifyNewest_append_cons _ hslot hafter, withFlags_of_card _ hbody]

/-! An unbound drawing (R87). -/

/-- What becomes of a slot is told by its body: a CARD slot of the drawing is an exception with its flags, any other stays. -/
theorem closeUnbound_of_slots {becomes : Slot → Slot}
    (hcard : ∀ x b f, x.body = .card b f →
      becomes x = if isCardOf d.serial x then { x with body := .card (.except .unlisted) f } else x)
    (hwaste : ∀ x reason, x.body = .waste reason → becomes x = x) :
    closeUnbound d s = occur .unlistedFrame { s with matching.hold := s.matching.hold.map becomes } := by
  have hslots (x : Slot) : (if isCardOf d.serial x then makeException .unlisted x else x) = becomes x := by
    cases hbody : x.body with
    | card b f => rw [hcard x b f hbody, makeException_of_card _ hbody]
    | waste reason => rw [hwaste x reason hbody, makeException_of_waste _ hbody, ite_self]
  simp only [closeUnbound, hslots]

/-! The close by the kind of the drawing (R72). -/

theorem closeDrawing_of_bound (hopen : s.matching.drawing = some d) (hentry : d.entry = some e) :
    closeDrawing s = { closeBound d e s with matching.drawing := none, matching.recent := some d } := by
  simp [closeDrawing, hopen, hentry]

theorem closeDrawing_of_unbound (hopen : s.matching.drawing = some d) (hentry : d.entry = none) :
    closeDrawing s = { closeUnbound d s with matching.drawing := none, matching.recent := some d } := by
  simp [closeDrawing, hopen, hentry]

end

end Sys2Proof.Machine

namespace Sys2Proof.Proofs

open Sys2Proof.Machine

/-- Settles O47: by the kind of the drawing; a bound one by its sheets and its newest held slot, an unbound one slot by slot. -/
theorem drawingCloses : Obligations.DrawingCloses := by
  unfold Obligations.DrawingCloses
  intro s d hopen
  refine ⟨?complete, ?short, ?unbound⟩
  case complete =>
    intro e hentry hcomplete
    rw [closeDrawing_of_bound hopen hentry, closeBound_of_complete hcomplete]
  case short =>
    intro e hentry hshort
    rw [closeDrawing_of_bound hopen hentry]
    refine ⟨fun hnone => ?_, fun before after slot b g hhold hbody hslot hafter => ?_⟩
    · rw [closeBound_of_short_of_none hshort hnone]
    · rw [closeBound_of_short_of_newest hshort hhold hbody hslot hafter]
  case unbound =>
    intro hentry exceptions
    have hclose : closeUnbound d s = occur .unlistedFrame { s with matching.hold := exceptions } :=
      closeUnbound_of_slots (fun x b f hbody => by simp only [hbody]) (fun x reason hbody => by simp only [hbody])
    rw [closeDrawing_of_unbound hopen hentry, hclose]

end Sys2Proof.Proofs
end

section
/-! The card composer (R84, R106, R115, R117, R204): the rules by which a punch image grows column by column, the bytes of its
items, and the flags, NOTE and disposition of a card, with the obligations O49 and O51 assembled from them. -/

namespace Sys2Proof.Machine

/-! Run-length coding of the columns (R115). -/

/-- A list of items codes a list of columns: read from the last column back, a blank column lengthens the run before it or
opens one where none stands, and any other column is a literal. -/
inductive Codes : List Pattern → List PunchItem → Prop where
  | nil : Codes [] []
  | lengthen {columns items k} : Codes columns (.run k :: items) → Codes (0#12 :: columns) (.run (k + 1) :: items)
  | openRun {columns items} : Codes columns items → (∀ k, items.head? ≠ some (.run k)) →
      Codes (0#12 :: columns) (.run 1 :: items)
  | literal {columns items p} : p ≠ 0#12 → Codes columns items → Codes (p :: columns) (.literal p :: items)

/-- The items of the columns are built by these rules, so what the rules keep holds of every punch image. -/
theorem codes_punchItems (columns : List Pattern) : Codes columns (punchItems columns) := by
  induction columns with
  | nil => exact .nil
  | cons p columns ih =>
    by_cases hp : p = 0#12
    · subst hp
      cases hitems : punchItems columns with
      | nil =>
        rw [hitems] at ih
        simpa [punchItems, hitems] using ih.openRun (by simp)
      | cons item rest =>
        rw [hitems] at ih
        cases item with
        | run k => simpa [punchItems, hitems] using ih.lengthen
        | literal q => simpa [punchItems, hitems] using ih.openRun (by simp)
    · simpa [punchItems, hp] using ih.literal hp

namespace Codes

open Sys2Proof.Safety

variable {columns : List Pattern} {items : List PunchItem}

theorem flatMap_itemPatterns (h : Codes columns items) : items.flatMap itemPatterns = columns := by
  induction h with
  | nil => rfl
  | lengthen _ ih => simpa [itemPatterns, List.replicate_succ] using ih
  | openRun _ _ ih => simpa [itemPatterns] using ih
  | literal _ _ ih => simpa [itemPatterns] using ih

theorem run_bounds (h : Codes columns items) : ∀ k, .run k ∈ items → 1 ≤ k ∧ k ≤ columns.length := by
  induction h with
  | nil => simp
  | lengthen _ ih =>
    have hfirst := ih _ (List.mem_cons_self ..)
    rintro k (_ | ⟨_, htail⟩)
    · simp only [List.length_cons]; omega
    · have hrest := ih k (List.mem_cons_of_mem _ htail)
      simp only [List.length_cons]; omega
  | openRun _ _ ih =>
    rintro k (_ | ⟨_, htail⟩)
    · simp
    · have hrest := ih k htail
      simp only [List.length_cons]; omega
  | literal _ _ ih =>
    rintro k (_ | ⟨_, htail⟩)
    have hrest := ih k htail
    simp only [List.length_cons]; omega

theorem literal_ne_blank (h : Codes columns items) : ∀ p, .literal p ∈ items → p ≠ 0#12 := by
  induction h with
  | nil => simp
  | lengthen _ ih => simpa using ih
  | openRun _ _ ih => simpa using ih
  | literal hp _ ih =>
    rintro q (_ | ⟨_, htail⟩)
    · exact hp
    · exact ih q htail

/-- Lengthening a run leaves what stands behind it, and a run is opened only before an item that is none. -/
theorem run_not_before_run (h : Codes columns items) :
    ∀ i j k, items[i]? = some (.run j) → items[i + 1]? ≠ some (.run k) := by
  induction h with
  | nil => simp
  | lengthen _ ih =>
    intro i j k hi
    cases i with
    | zero => exact ih 0 _ k rfl
    | succ i => exact ih (i + 1) j k hi
  | openRun _ hnew ih =>
    intro i j k hi
    cases i with
    | zero => simpa [List.head?_eq_getElem?] using hnew k
    | succ i => exact ih i j k hi
  | literal _ _ ih =>
    intro i j k hi
    cases i with
    | zero => simp at hi
    | succ i => exact ih i j k hi

end Codes

/-! The bytes of an item (R204). -/

/-- The high byte of a literal holds rows 11 to 8 of the pattern, the low byte rows 7 to 0. -/
theorem itemBytes_literal (p : Pattern) :
    itemBytes (.literal p) = [(p.extractLsb' 8 4).setWidth 8, (p.extractLsb' 0 8 : BitVec 8)] := by
  have hhigh : BitVec.ofNat 8 (p.toNat / 256) = (p.extractLsb' 8 4).setWidth 8 := by
    apply BitVec.eq_of_toNat_eq
    simp [Nat.shiftRight_eq_div_pow]; omega
  have hlow : BitVec.ofNat 8 p.toNat = p.extractLsb' 0 8 := by
    apply BitVec.eq_of_toNat_eq
    simp
  simp only [itemBytes, be16, hhigh, hlow]

/-- A run of fewer than 128 columns leaves the top bit of its byte to the run mark. -/
theorem itemBytes_run {k : Nat} (h : k < 128) : itemBytes (.run k) = [0x80#8 ||| BitVec.ofNat 8 k] := by
  have hmark : 128 + k = 128 ||| k := Nat.two_pow_add_eq_or_of_lt (i := 7) h 1
  simp only [itemBytes, be8, hmark, BitVec.ofNat_or]

/-! The NOTE and the disposition of a card (R106, R117). -/

section
variable {b : Binding}

theorem noteText_of_not_except (h : ∀ cause, b ≠ .except cause) (g : SlotFlags) :
    noteText b g =
      if g.lateRetake then noteLRT else if g.early then noteERL else if g.short then noteSHT
      else if g.suspect then noteSUS else if g.poor then notePOR else if g.retake then noteRTK else [] := by
  cases b with
  | bound => rfl
  | unbound => rfl
  | except cause => exact absurd rfl (h cause)

theorem dispositionOf_of_not_except (h : ∀ cause, b ≠ .except cause) (v : Settings) (g : SlotFlags) :
    dispositionOf v b g = if (g.poor && v.poorReject) || (g.suspect && v.suspectReject) then .reject else .mount := by
  cases b with
  | bound => rfl
  | unbound => rfl
  | except cause => exact absurd rfl (h cause)

end

theorem dispositionOf_eq_reject_iff (v : Settings) (b : Binding) (g : SlotFlags) :
    dispositionOf v b g = .reject ↔
      (∃ cause, b = .except cause) ∨ (g.poor = true ∧ v.poorReject = true) ∨
      (g.suspect = true ∧ v.suspectReject = true) := by
  by_cases hexcept : ∃ cause, b = .except cause
  · obtain ⟨cause, rfl⟩ := hexcept
    simp [dispositionOf]
  · rw [dispositionOf_of_not_except (not_exists.mp hexcept)]
    split
    case isTrue hflags => simpa [hexcept] using hflags
    case isFalse hflags => simpa [hexcept] using hflags

end Sys2Proof.Machine

namespace Sys2Proof.Proofs

open Sys2Proof.Machine

/-- Settles O49: the clauses about the items by the rules that build them, those about the bytes item by item. -/
theorem punchImageEncodes : Obligations.PunchImageEncodes := by
  unfold Obligations.PunchImageEncodes
  intro columns
  have hcodes := codes_punchItems columns
  exact ⟨hcodes.flatMap_itemPatterns, hcodes.run_bounds, hcodes.literal_ne_blank, hcodes.run_not_before_run,
    itemBytes_literal, fun k hk => itemBytes_run (by omega)⟩

/-- Settles O51: the flags field by field; the NOTE and the disposition by whether the slot is an exception. -/
theorem cardTablesHold : Obligations.CardTablesHold := by
  unfold Obligations.CardTablesHold
  refine ⟨?flags, ?note, ?disposition⟩
  case flags =>
    intro f g
    simp [addFrameFlags, Bool.or_assoc]
  case note =>
    intro b g text
    refine ⟨?unlisted, ?extra, noteText_of_not_except (g := g)⟩
    case unlisted => rintro rfl; rfl
    case extra => rintro rfl; rfl
  case disposition =>
    intro v b g
    refine ⟨dispositionOf_eq_reject_iff v b g, ?_⟩
    cases dispositionOf v b g with
    | mount => exact .inl rfl
    | reject => exact .inr rfl

end Sys2Proof.Proofs
end

section
/-! The events (R163, R188, R189, R192, R193, R205): the codes and the sets over them, the room of the control queue, when the
notice test of an occurrence queues its NOTICE, and what an occurrence leaves in either case. -/

namespace Sys2Proof.Machine

/-! Codes and sets (R188). -/

theorem eventCode_lt (e : Event) : eventCode e < 24 := by
  cases e <;> decide

/-- Every code has its place in the 24 bits of a set, so a set that gains an event holds it. -/
theorem eventIn_or_eventBit (e : Event) (set : EventSet) : eventIn e (set ||| eventBit e) = true := by
  simp [eventIn, eventBit, eventCode_lt e]

/-- A latched event outside the mask is itself an unmasked latched event (R193). -/
theorem unmaskedLatched_ne_zero {e : Event} {c : CommandUnit} (hlatched : eventIn e c.latched = true)
    (hmask : eventIn e c.mask = false) : unmaskedLatched c ≠ 0#24 := by
  intro hzero
  have hin : eventIn e (unmaskedLatched c) = true := by
    simp only [eventIn] at hlatched hmask
    rw [eventIn, unmaskedLatched, BitVec.getLsbD_and, BitVec.getLsbD_not, hlatched, hmask]
    simp [eventCode_lt e]
  simp [hzero, eventIn] at hin

/-! The notice of an occurrence (R163, R192, R193). -/

theorem controlRoom_iff (l : LinePort) :
    controlRoom l = true ↔
      (l.control.filter (fun c => !c.halt)).length + (if l.replyReserved then 1 else 0) < 7 :=
  decide_eq_true_iff

/-- The state of an occurrence when its event has joined the latched set and no notice is tested yet (R189). -/
def latchEvent (e : Event) (s : State) : State := { s with command.latched := s.command.latched ||| eventBit e }

@[simp] theorem latchEvent_line (e : Event) (s : State) : (latchEvent e s).line = s.line := rfl
@[simp] theorem latchEvent_command_arming (e : Event) (s : State) :
    (latchEvent e s).command.arming = s.command.arming := rfl

/-- An occurrence of an unmasked event at an armed station is followed by the notice test (R192). -/
theorem occur_of_armed_unmasked {e : Event} {s : State} (harm : s.command.arming = true)
    (hmask : eventIn e s.command.mask = false) : occur e s = noticeTest (some e) (latchEvent e s) :=
  if_pos (by simp [harm, hmask])

/-- Without arming, or with the event masked, an occurrence only latches (R192). -/
theorem occur_of_not_armed_unmasked {e : Event} {s : State}
    (h : ¬(s.command.arming = true ∧ eventIn e s.command.mask = false)) : occur e s = latchEvent e s :=
  if_neg (by simpa using h)

/-- Once an unmasked event has latched at an armed station, only the mode and the room decide (R193). -/
theorem noticeFalls_latchEvent_iff {e : Event} {s : State} (harm : s.command.arming = true)
    (hmask : eventIn e s.command.mask = false) :
    noticeFalls (latchEvent e s) = true ↔ s.line.mode ≠ .bypass ∧ controlRoom s.line = true := by
  have hunmasked : unmaskedLatched (latchEvent e s).command ≠ 0#24 :=
    unmaskedLatched_ne_zero (eventIn_or_eventBit e s.command.latched) hmask
  simp only [noticeFalls, Bool.and_eq_true, decide_eq_true_iff]
  simp [hunmasked, harm]

/-- The four conditions under which an occurrence queues its NOTICE (R163, R192, R193). -/
def noticeGiven (e : Event) (s : State) : Prop :=
  s.command.arming = true ∧ eventIn e s.command.mask = false ∧ s.line.mode ≠ .bypass ∧
    (s.line.control.filter (fun c => !c.halt)).length + (if s.line.replyReserved then 1 else 0) < 7

/-- At an armed station and for an unmasked event the conditions are the notice test's (R193). -/
theorem noticeGiven_iff_noticeFalls {e : Event} {s : State} (harm : s.command.arming = true)
    (hmask : eventIn e s.command.mask = false) : noticeGiven e s ↔ noticeFalls (latchEvent e s) = true := by
  rw [noticeFalls_latchEvent_iff harm hmask, controlRoom_iff]
  simp only [noticeGiven, harm, hmask, true_and]

/-- The NOTICE of an occurrence joins the control queue, and the station is no longer armed (R193). -/
theorem occur_of_noticeGiven {e : Event} {s : State} (h : noticeGiven e s) :
    occur e s =
      { queueControl (noticeRecord (some e) (latchEvent e s)) (latchEvent e s) with command.arming := false } := by
  have ⟨harm, hmask, _⟩ := h
  rw [occur_of_armed_unmasked harm hmask]
  rcases noticeTest_cases (some e) (latchEvent e s) with ⟨_, htest⟩ | ⟨hnot, _⟩
  · exact htest
  · simp [(noticeGiven_iff_noticeFalls harm hmask).mp h] at hnot

theorem occur_of_not_noticeGiven {e : Event} {s : State} (h : ¬noticeGiven e s) : occur e s = latchEvent e s := by
  by_cases htested : s.command.arming = true ∧ eventIn e s.command.mask = false
  case pos =>
    obtain ⟨harm, hmask⟩ := htested
    rw [occur_of_armed_unmasked harm hmask]
    rcases noticeTest_cases (some e) (latchEvent e s) with ⟨hfalls, _⟩ | ⟨_, htest⟩
    · exact absurd ((noticeGiven_iff_noticeFalls harm hmask).mpr hfalls) h
    · exact htest
  case neg => exact occur_of_not_armed_unmasked htested

end Sys2Proof.Machine

namespace Sys2Proof.Proofs

open Sys2Proof.Machine

/-- Settles O6: the codes by their table; an occurrence by whether its notice is given. -/
theorem eventOccurs : Obligations.EventOccurs := by
  unfold Obligations.EventOccurs
  refine ⟨by decide, fun e s => ?_⟩
  by_cases h : noticeGiven e s
  case pos => exact (occur_of_noticeGiven h).trans (if_pos h).symm
  case neg => exact (occur_of_not_noticeGiven h).trans (if_neg h).symm

end Sys2Proof.Proofs
end

section
/-! Release (R69, R90, R91, R122): which slots may leave, the recursion of `release`, and what a whole run of it has done, with
the obligation O48 assembled from them. -/

namespace Sys2Proof.Machine

/-! Slots that may leave (R69, R90). -/

theorem isCardOf_iff (serial : Nat) (x : Slot) :
    isCardOf serial x = true ↔
      (∃ e sheet g, x.body = .card (.bound e serial sheet) g) ∨ ∃ sheet g, x.body = .card (.unbound serial sheet) g := by
  unfold isCardOf slotSerial
  rcases hbody : x.body with reason | ⟨e, k, sheet⟩ | ⟨k, sheet⟩ | cause <;> simp

theorem isReleasable_iff (m : MatchingEngine) (x : Slot) :
    isReleasable m x = true ↔
      (∃ reason, x.body = .waste reason) ∨ (∃ cause g, x.body = .card (.except cause) g) ∨ m.drawing = none ∨
      ∃ d serial, m.drawing = some d ∧ serial ≠ d.serial ∧
        ((∃ e sheet g, x.body = .card (.bound e serial sheet) g) ∨ ∃ sheet g, x.body = .card (.unbound serial sheet) g) := by
  unfold isReleasable isCardOf slotSerial
  cases m.drawing with
  | none => simp
  | some d => rcases hbody : x.body with reason | ⟨e, k, sheet⟩ | ⟨k, sheet⟩ | cause <;> simp

/-- Whether a slot may leave is a matter of the open drawing alone. -/
theorem isReleasable_congr {m n : MatchingEngine} (h : m.drawing = n.drawing) (x : Slot) :
    isReleasable m x = isReleasable n x := by
  simp only [isReleasable, h]

/-! The head (R91). -/

section
variable {s : State} {x : Slot} {rest : List Slot}

theorem releaseHead_of_nil (h : s.matching.hold = []) : releaseHead s = none := by
  simp [releaseHead, h]

theorem releaseHead_of_cons (h : s.matching.hold = x :: rest) :
    releaseHead s =
      if isReleasable s.matching x = true ∧ s.output.queue.length < 24 then
        some (emitSlot x { s with matching.hold := rest }) else none := by
  simp only [releaseHead, h]
  exact if_congr (by rw [Bool.and_eq_true, decide_eq_true_iff]; rfl) rfl rfl

theorem releaseHead_eq_none_iff (s : State) :
    releaseHead s = none ↔
      ∀ x ∈ s.matching.hold.head?, isReleasable s.matching x = false ∨ 24 ≤ s.output.queue.length := by
  rcases hhold : s.matching.hold with _ | ⟨x, rest⟩
  · simp [releaseHead_of_nil hhold]
  · rw [releaseHead_of_cons hhold]
    simp only [List.head?_cons, Option.mem_some_iff, forall_eq', ite_eq_right_iff, reduceCtorEq, imp_false, not_and_or,
      Bool.not_eq_true, not_lt]

/-- The head of the hold queue leaves: it is rendered behind the output queue and counted, and the OUTPUT test follows. -/
def leaveHead (s : State) (x : Slot) : State := emitSlot x { s with matching.hold := s.matching.hold.drop 1 }

/-! The recursion (R91). -/

theorem release_of_nil (h : s.matching.hold = []) : release s = s := by
  simp [release, h, releaseUpTo]

theorem release_of_cons (h : s.matching.hold = x :: rest) :
    release s =
      if isReleasable s.matching x = true ∧ s.output.queue.length < 24 then release (leaveHead s x) else s := by
  have hfuel : release s = releaseUpTo (rest.length + 1) s := by simp [release, h]
  rw [hfuel, releaseUpTo, releaseHead_of_cons h]
  split_ifs with hmay
  · simp [leaveHead, release, h]
  · rfl

/-- Reasoning about a whole release: what holds of the state at its start and is kept by each slot that may leave holds at its
end. -/
theorem release_induction {P : State → Prop}
    (hleave : ∀ s x rest, s.matching.hold = x :: rest → isReleasable s.matching x = true → s.output.queue.length < 24 →
      P s → P (leaveHead s x)) (s : State) (h : P s) : P (release s) := by
  rcases hhold : s.matching.hold with _ | ⟨x, rest⟩
  · rwa [release_of_nil hhold]
  · rw [release_of_cons hhold]
    split_ifs with hmay
    · exact release_induction hleave _ (hleave s x rest hhold hmay.1 hmay.2 h)
    · exact h
termination_by s.matching.hold.length
decreasing_by simp [leaveHead, hhold]

/-- Release ends when the head may not leave (R91). -/
theorem releaseHead_release (s : State) : releaseHead (release s) = none := by
  rcases hhold : s.matching.hold with _ | ⟨x, rest⟩
  · rw [release_of_nil hhold, releaseHead_of_nil hhold]
  · rw [release_of_cons hhold]
    split_ifs with hmay
    · exact releaseHead_release (leaveHead s x)
    · rw [releaseHead_of_cons hhold, if_neg hmay]
termination_by s.matching.hold.length
decreasing_by simp [leaveHead, hhold]

end

/-! What a run of releases has done. -/

/-- The OUTPUT test writes the reason OUTPUT and the control queue, and nothing else (R139). -/
theorem outputTest_eq (s : State) :
    outputTest s =
      { s with
        output.halt.output := (outputTest s).output.halt.output
        line.control := (outputTest s).line.control } := by
  rcases outputTest_cases s with h | ⟨b, h⟩
  · rw [h]
  · rw [h]
    rcases requestHalt_cases .output b s with ⟨_, hr⟩ | ⟨_, hr⟩
    · rw [hr]
    · rw [hr]
      rfl

/-- The counters when one more slot has left (R100). -/
def countSlot (k : Counters) (x : Slot) : Counters := advanceCounter (renderCounter x) k

/-- The state of a run of releases: `n` slots have left from the head of the hold queue, and of the rest only the reason OUTPUT
and the control queue are told by the outcome itself. -/
def released (n : Nat) (s out : State) : State :=
  { s with
    matching.hold := s.matching.hold.drop n
    output.queue := s.output.queue ++ (s.matching.hold.take n).zipIdx.map
      (fun p => render s.command.settings s.composer ((s.output.nextSeq + p.2) % 65536) p.1)
    output.nextSeq := (s.output.nextSeq + n) % 65536
    output.halt.output := out.output.halt.output
    line.control := out.line.control
    command.counters := (s.matching.hold.take n).foldl countSlot s.command.counters }

theorem leaveHead_eq (s : State) (x : Slot) :
    leaveHead s x =
      { s with
        matching.hold := s.matching.hold.drop 1
        output.queue := s.output.queue ++ [render s.command.settings s.composer s.output.nextSeq x]
        output.nextSeq := (s.output.nextSeq + 1) % 65536
        output.halt.output := (leaveHead s x).output.halt.output
        line.control := (leaveHead s x).line.control
        command.counters := countSlot s.command.counters x } :=
  outputTest_eq _

/-- One slot that leaves and a run from there are one longer run. -/
theorem released_succ {s : State} {x : Slot} {rest : List Slot} (h : s.matching.hold = x :: rest)
    (hseq : s.output.nextSeq < 65536) (n : Nat) (out : State) :
    released n (leaveHead s x) out = released (n + 1) s out := by
  rw [leaveHead_eq]
  simp [released, h, List.zipIdx_succ, Function.comp_def, Nat.add_assoc, Nat.add_comm 1, Nat.mod_eq_of_lt hseq]

/-- A run of releases from its start to its end (R91): how many slots left, that each of them might, and the outcome. -/
theorem release_run (s : State) (hseq : s.output.nextSeq < 65536) :
    ∃ n, n ≤ s.matching.hold.length ∧ release s = (s.matching.hold.take n).foldl leaveHead s ∧
      release s = released n s (release s) ∧ (0 < n → s.output.queue.length + n ≤ 24) ∧
      ∀ x ∈ s.matching.hold.take n, isReleasable s.matching x = true := by
  have hstay (hrel : release s = s) :
      release s = released 0 s (release s) := by simp [released, hrel, Nat.mod_eq_of_lt hseq]
  rcases hhold : s.matching.hold with _ | ⟨x, rest⟩
  · have hrel := release_of_nil hhold
    exact ⟨0, by simp, by simpa using hrel, hstay hrel, by simp, by simp⟩
  · rw [release_of_cons hhold]
    split_ifs with hmay
    · have hrest : (leaveHead s x).matching.hold = rest := by simp [leaveHead, hhold]
      obtain ⟨n, hn, hfold, hrun, hroom, hfree⟩ :=
        release_run (leaveHead s x) (by simpa [leaveHead] using Nat.mod_lt _ (by decide))
      rw [hrest] at hn hfold hfree
      refine ⟨n + 1, by simpa using hn, by simpa using hfold, ?_, fun _ => ?_, ?_⟩
      · rw [released_succ hhold hseq] at hrun
        exact hrun
      · rcases Nat.eq_zero_or_pos n with rfl | hpos
        · omega
        · simpa [leaveHead, Nat.add_assoc, Nat.add_comm 1] using hroom hpos
      · simpa [hmay.1] using fun y hy =>
          (isReleasable_congr (by simp [leaveHead]) y).symm.trans (hfree y hy)
    · have hrel : release s = s := by rw [release_of_cons hhold, if_neg hmay]
      rw [hrel] at hstay
      exact ⟨0, by simp, by simp, hstay rfl, by simp, by simp⟩
termination_by s.matching.hold.length
decreasing_by simp [leaveHead, hhold]

end Sys2Proof.Machine

namespace Sys2Proof.Proofs

open Sys2Proof.Machine

/-- Settles O48: the tests of R90 and R91 slot by slot, the recursion by the head, and the run of releases by `release_run`. -/
theorem releaseRunsToItsEnd : Obligations.ReleaseRunsToItsEnd := by
  unfold Obligations.ReleaseRunsToItsEnd
  intro count leave
  have hcount : count = countSlot := by
    funext k x
    cases hbody : x.body <;> simp [count, countSlot, renderCounter, advanceCounter, hbody]
  have hleave : leave = leaveHead := by
    funext t x
    simp only [leave, hcount]
    rfl
  rw [hleave, hcount]
  refine ⟨isCardOf_iff, isReleasable_iff, releaseHead_eq_none_iff, fun _ => release_of_nil,
    fun _ _ _ => release_of_cons, fun s hseq => ?_⟩
  obtain ⟨n, hn, hfold, hrun, hroom, hfree⟩ := release_run s hseq
  exact ⟨n, hn, hfold, hrun, releaseHead_release s, hroom, hfree⟩

end Sys2Proof.Proofs
end

section
/-! The way of a command through the line port (R146 to R154, R160, R164): the terms of the statements are the model's own, each
arrival is its record received, and what the rows of the sorting do with a good record. -/

namespace Sys2Proof.Machine

open Sys2Proof.Safety

/-! The arbiter's choice and the queues, in the terms of the statements. -/

theorem sendInstruction_eq (i : Instruction) (rest : List Instruction) (s : State) :
    sendInstruction i rest s = release (outputTest { s with
      line.burst := if s.line.forward = [] then 0 else s.line.burst + 1
      line.sending := some { forwarded := false, record := instructionRecord (originSource s.line) i }
      output.queue := rest
      output.inFlight := s.output.inFlight ++
        [{ instruction := i, deadline := s.command.settings.doneTime }] }) := by
  simp only [sendInstruction, takeInstruction, startSending, List.isEmpty_iff]

/-- The choice is the one that the statements write out (R164, R165). -/
theorem choose_eq_arbitrated (s : State) : choose s = arbitrated s := by
  unfold choose arbitrated
  by_cases hfree : s.line.path = .stored ∧ s.line.sending = none
  · rw [if_pos hfree, if_neg (by simp [hfree])]
    rcases hcontrol : s.line.control with _ | ⟨c, q⟩
    · rcases hforward : s.line.forward with _ | ⟨r, fs⟩ <;> rcases hqueue : s.output.queue with _ | ⟨i, rest⟩
      · simp [chooseFlow, hforward, hqueue]
      · simp only [chooseFlow, hforward, hqueue, sendInstruction_eq, maySend, true_or, and_true]
        simp [originSource, srcNone] <;> rfl
      · simp [chooseFlow, hforward, hqueue, sendForwarded, startSending]
      · simp only [chooseFlow, hforward, hqueue, sendInstruction_eq, maySend]
        simp [originSource, srcNone, sendForwarded, startSending, and_assoc, hforward] <;> rfl
    · rfl
  · have hbusy : s.line.path = .through ∨ s.line.sending ≠ none := by
      cases hpath : s.line.path <;> simp_all
    rw [if_neg hfree, if_pos hbusy]

theorem forwardUsed_eq (l : LinePort) : forwardUsed l = (l.forward.map (fun r => 7 + r.payload.length)).sum := by
  have hlength : recordLength = fun r => 7 + r.payload.length := by
    funext r
    simp only [recordLength]
    omega
  rw [forwardUsed, hlength]

theorem forwardRecord_eq_passOn (r : Record) (s : State) : forwardRecord r s = passOn r s := by
  unfold forwardRecord passOn
  rw [forwardUsed_eq]
  refine if_congr ?_ rfl rfl
  simp only [recordLength, forwardBytes]
  omega

/-! The arms: an arrival is its record received (R145, R199). -/

theorem exec_of_recordOf {c : Instr} {r : Record} (h : recordOf c = some r) (s : State) :
    exec c s = .next (arbitrated (receive r s)) := by
  rw [← choose_eq_arbitrated]
  cases c <;> first | (injection h with h; subst h; rfl) | cases h

/-- A bad record is one that the receiver finds no record in (R146). -/
theorem exec_badRecord {bytes : List Byte} (h : isBadRecord bytes = true) (s : State) :
    exec (.badRecord bytes) s = .next (arbitrated (receiveBad s)) := by
  have hnone : parseRecord bytes = none := by
    simp only [isBadRecord, Bool.and_eq_true, Option.isNone_iff_eq_none] at h
    exact h.1.2
  rw [← choose_eq_arbitrated]
  change completed (receiveBytes bytes s) = _
  rw [receiveBytes, hnone]
  rfl

/-! Receiving (R148, R150, R151). -/

section
variable {r : Record} {s : State}

theorem receive_eq_receiveGood (hlen : r.payload.length ≤ 320) : receive r s = receiveGood r s := if_pos hlen

theorem receive_of_nrstLow (h : s.signals.nrstLow = true) : receive r s = s := by
  simp [receive, receiveGood, receiveBad, h]

theorem receiveBytes_of_nrstLow (h : s.signals.nrstLow = true) (bytes : List Byte) : receiveBytes bytes s = s := by
  unfold receiveBytes receiveGood receiveBad
  split <;> simp [h]

theorem receive_of_hunt (hlen : r.payload.length ≤ 320) (hnrst : s.signals.nrstLow = false)
    (hhunt : s.line.alignment = .hunt) : receive r s = huntGood s := by
  simp [receive_eq_receiveGood hlen, receiveGood, hnrst, hhunt]

theorem receiveBad_of_hunt (hnrst : s.signals.nrstLow = false) (hhunt : s.line.alignment = .hunt) :
    receiveBad s = { s with line.goodRun := 0 } := by
  simp [receiveBad, hnrst, hhunt]

theorem receiveBad_of_listening (h : listening s) : receiveBad s = lockedBad s := by
  simp [receiveBad, h.1, h.2]

theorem receive_of_listening (h : listening s) (hlen : r.payload.length ≤ 320) : receive r s = lockedGood r s := by
  simp [receive_eq_receiveGood hlen, receiveGood, h.1, h.2]

theorem receive_of_bypass (h : listening s) (hlen : r.payload.length ≤ 320) (hmode : s.line.mode = .bypass) :
    receive r s = sortBypass r (sorted s) := by
  simp [receive_of_listening h hlen, lockedGood, hmode, sorted]

theorem receive_of_member (h : listening s) (hlen : r.payload.length ≤ 320) (hmode : s.line.mode ≠ .bypass) :
    receive r s = sortStored r (sorted s) := by
  rw [receive_of_listening h hlen, lockedGood]
  cases hm : s.line.mode
  · exact absurd hm hmode
  · rfl
  · rfl

end

/-! The rows of the sorting (R153, R154, R200). -/

section
variable {r : Record} {s : State}

theorem isPosition_iff (l : LinePort) (b : Byte) : isPosition l b = true ↔ l.position = some b.toNat :=
  decide_eq_true_iff

theorem sortStored_of_own (h : isPosition s.line r.src = true) : sortStored r s = s := if_pos h

theorem sortStored_roll (hsrc : isPosition s.line r.src = false) (hkind : r.kind = kindRoll) (hlen : r.payload.length = 1) :
    sortStored r s = takeRoll r (r.payload.headD 0#8).toNat s := by
  simp [sortStored, hsrc, hkind, hlen]

theorem sortStored_command (hsrc : isPosition s.line r.src = false) (hkind : r.kind = kindCommand)
    (hdst : isPosition s.line r.dst = true ∨ r.dst = dstAll) :
    sortStored r s =
      if isPosition s.line r.dst = true then takeCommand r.src r.payload s
      else forwardRecord r (takeCommand r.src r.payload s) := by
  have hroll : kindCommand ≠ kindRoll := by decide
  by_cases hpos : isPosition s.line r.dst = true
  · simp [sortStored, hsrc, hkind, hroll, hpos]
  · simp [sortStored, hsrc, hkind, hroll, hdst.resolve_left hpos]

theorem sortStored_done (hsrc : isPosition s.line r.src = false) (hkind : r.kind = kindDone) (hlen : r.payload.length = 3)
    (hdst : isPosition s.line r.dst = true) : sortStored r s = takeReport r s := by
  have hroll : kindDone ≠ kindRoll := by decide
  have hcommand : kindDone ≠ kindCommand := by decide
  simp [sortStored, hsrc, hkind, hroll, hcommand, hlen, hdst]

/-- A record of none of the kinds with a row of their own goes to the tracker or is passed on. -/
theorem sortStored_film (hsrc : isPosition s.line r.src = false) (hroll : ¬(r.kind = kindRoll ∧ r.payload.length = 1))
    (hcommand : ¬(r.kind = kindCommand ∧ (isPosition s.line r.dst = true ∨ r.dst = dstAll)))
    (hdone : ¬(r.kind = kindDone ∧ r.payload.length = 3 ∧ isPosition s.line r.dst = true)) :
    sortStored r s = (takeFilm r s).getD (forwardRecord r s) := by
  have hpos : ¬(r.kind = kindCommand ∧ isPosition s.line r.dst = true) := fun h => hcommand ⟨h.1, .inl h.2⟩
  have hall : ¬(r.kind = kindCommand ∧ r.dst = dstAll) := fun h => hcommand ⟨h.1, .inr h.2⟩
  simp only [sortStored, hsrc, hroll, hpos, hall, hdone, if_false, Bool.false_eq_true]
  cases takeFilm r s <;> rfl

end

end Sys2Proof.Machine
end

section
/-! What one command can do to the blocks: its whole effect before the arbiter's choice, row by row of the sorting and of the
command unit, read as moves of the blocks; the passage from a law that every move keeps to a law that every step keeps. -/

namespace Sys2Proof.Machine

open Sys2Proof.Safety

/-! What a move of the line port leaves alone. -/

/-- The blocks behind the line port, as the laws see them, are as they were: the mode, the tracker, the density unit, the list,
the matching engine, the composer, the output controller, the settings and the three counters of the frame balance. -/
structure SameBlocks (s t : State) : Prop where
  mode : t.line.mode = s.line.mode
  tracker : t.tracker = s.tracker
  density : t.density = s.density
  list : t.list = s.list
  matching : t.matching = s.matching
  composer : t.composer = s.composer
  output : t.output = s.output
  settings : t.command.settings = s.command.settings
  accepted : t.command.counters.framesAccepted = s.command.counters.framesAccepted
  cards : t.command.counters.cards = s.command.counters.cards
  wastes : t.command.counters.wastes = s.command.counters.wastes

namespace SameBlocks

variable {s t u : State}

theorem refl (s : State) : SameBlocks s s := ⟨rfl, rfl, rfl, rfl, rfl, rfl, rfl, rfl, rfl, rfl, rfl⟩

theorem trans (h : SameBlocks s t) (k : SameBlocks t u) : SameBlocks s u :=
  ⟨k.mode.trans h.mode, k.tracker.trans h.tracker, k.density.trans h.density, k.list.trans h.list,
    k.matching.trans h.matching, k.composer.trans h.composer, k.output.trans h.output, k.settings.trans h.settings,
    k.accepted.trans h.accepted, k.cards.trans h.cards, k.wastes.trans h.wastes⟩

/-- A change of the line port that keeps the mode is one of these. -/
theorem ofLine (s : State) (l : LinePort) (h : l.mode = s.line.mode := by rfl) : SameBlocks s { s with line := l } :=
  ⟨h, rfl, rfl, rfl, rfl, rfl, rfl, rfl, rfl, rfl, rfl⟩

theorem occur (e : Event) (s : State) : SameBlocks s (occur e s) := by constructor <;> simp

theorem noticeTest (cause : Option Event) (s : State) : SameBlocks s (noticeTest cause s) := by constructor <;> simp

/-- Only three counters take part in the balance of frames (R196). -/
theorem advance {k : Counter} (hk : k ≠ .framesAccepted ∧ k ≠ .cards ∧ k ≠ .wastes) (s : State) :
    SameBlocks s (advance k s) := by
  constructor <;> first | rfl | (cases k <;> simp_all [advanceCounter])

theorem reply (src code : Byte) (status : Status) (data : List Byte) (s : State) :
    SameBlocks s (reply src code status data s) := ofLine s _

theorem forwardRecord (r : Record) (s : State) : SameBlocks s (forwardRecord r s) := by
  rcases forwardRecord_cases r s with ⟨_, h⟩ | ⟨_, h⟩ <;> rw [h]
  · exact ofLine s _
  · exact (advance (by decide) s).trans (occur _ _)

theorem takeRoll (r : Record) (n : Nat) (s : State) : SameBlocks s (takeRoll r n s) := by
  unfold Machine.takeRoll
  split_ifs
  · exact ofLine s _
  · constructor <;> simp
  · exact advance (by decide) s

theorem strayDone (s : State) : SameBlocks s (strayDone s) := (advance (by decide) s).trans (occur _ _)

theorem writeOffEach (es : List InFlight) (s : State) : SameBlocks s (writeOffEach es s) := by
  induction es generalizing s with
  | nil => exact refl s
  | cons e es ih => exact ((advance (by decide) s).trans (occur .doneTimeout _)).trans (ih _)

theorem huntGood (s : State) : SameBlocks s (huntGood s) := by
  unfold Machine.huntGood
  split_ifs <;> exact ofLine s _

theorem lockedBad (s : State) : SameBlocks s (lockedBad s) := by
  have hcounted := (advance (k := .checkFails) (by decide) s).trans (occur .checkFail _)
  unfold Machine.lockedBad
  dsimp only
  split_ifs
  · refine SameBlocks.trans ?_ (occur .linkSlip _)
    exact hcounted.trans (ofLine _ _)
  · exact hcounted.trans (ofLine _ _)

theorem strapMoves (pins : BitVec 4) (s : State) : SameBlocks s (strapMoves pins s) := by
  unfold Machine.strapMoves
  split_ifs
  · exact refl s
  · exact (show SameBlocks s { s with signals.strapPins := pins } from
      ⟨rfl, rfl, rfl, rfl, rfl, rfl, rfl, rfl, rfl, rfl, rfl⟩).trans (occur _ _)

theorem finishSending (s : State) : SameBlocks s (finishSending s) := by
  unfold Machine.finishSending
  split
  · exact refl s
  · split <;> exact ofLine s _

end SameBlocks

/-! What the command unit does (chapter 8), between the reservation of the place of a REPLY and the REPLY. -/

/-- A LIST_APPEND that passes the checks of R53 and R54. -/
structure Appends (s : State) (operand : List Byte) (first : Nat) (es : List RawEntry) : Prop where
  read : readAppend operand = some (first, es)
  valid : firstInvalid 1 es = none
  expected : s.list.expected = none ∨ s.list.expected = some first
  fits : s.list.entries.length + es.length ≤ 256

/-- The list when an accepted append has joined it (R57). -/
def joinEntries (first : Nat) (es : List RawEntry) (s : State) : State :=
  { s with
    list.entries := s.list.entries ++ convertEntries first es
    list.expected := some ((first + es.length) % 65536) }

/-- Everything a command can do to the blocks before its REPLY. -/
inductive Acts (s : State) : State → Prop where
  | nothing : Acts s s
  | joins : s.line.mode = .bypass → Acts s { s with line.mode := .pass }
  | converts : Acts s { s with line.mode := .convert }
  | passes : holdsWork s = false → Acts s { s with line.mode := .pass, matching.flushTimer := none }
  | table (operand : List Byte) : operand.length = 130 →
      Acts s { s with density.table := repairTable (clampDensity (words16 operand)) }
  | tableRepaired (operand : List Byte) : operand.length = 130 →
      Acts s (occur .tableRepaired { s with density.table := repairTable (clampDensity (words16 operand)) })
  | settings (operand : List Byte) (v : Settings) : operand.length = 36 → s.line.mode ≠ .convert →
      settingsOf (clampSettings (words16 operand)) = some v → inconsistency v = 0 →
      Acts s { s with command.settings := v }
  | punch (operand : List Byte) : operand.length = 128 → Acts s { s with composer.punch := readPatterns operand }
  | fields (raw : List RawPlacement) (map : List Placement) : raw.length ≤ 8 → fitPlacements 1 raw = .ok map →
      Acts s { s with composer.fieldMap := map }
  | appends (operand : List Byte) (first : Nat) (es : List RawEntry) : Appends s operand first es →
      Acts s (reportList (bindAppended (joinEntries first es s)).2)
  | clearsList : Acts s { s with list.entries := [], list.expected := none }
  | flushes : Acts s (reportList (settleTimer (closeAndRelease s)))
  | reissues (i : Instruction) : s.output.held = true → s.output.jam = some i → s.output.queue.length < 25 →
      Acts s (reissue i s)
  | drops (i : Instruction) : s.output.held = true → s.output.jam = some i → Acts s (dropJammed s)
  | clearsCounters : Acts s { s with command.counters := zeroCounters }
  | clearsEvents (set : EventSet) : Acts s { s with command.latched := set }
  | masks (set : EventSet) : Acts s (noticeTest none { s with command.mask := set })
  | arms : Acts s (noticeTest none { s with command.arming := true })

/-- Everything a command can do that is executed: it acts and queues its REPLY, or queues it and resets the blocks. -/
inductive Executes (s : State) : State → Prop where
  | answers {t : State} (src code : Byte) (status : Status) (data : List Byte) : Acts s t →
      Executes s (reply src code status data t)
  | resets (src code : Byte) (status : Status) (data : List Byte) :
      Executes s { resetBlocks (reply src code status data s) with line.mode := .pass }
  | leaves (src code : Byte) (status : Status) (data : List Byte) :
      Executes s { resetBlocks (reply src code status data s) with
        line.position := none, line.mode := .bypass, line.path := .stored }

/-! Each command of the table does one of these. -/

section
variable {s : State} (src : Byte) (operand : List Byte)

theorem Executes.cmdJoin : Executes s (cmdJoin src s) := by
  unfold Machine.cmdJoin
  dsimp only
  split_ifs with hmode
  · exact .answers _ _ _ _ (.joins hmode)
  · exact .answers _ _ _ _ .nothing

theorem Executes.cmdLeave : Executes s (cmdLeave src operand s) := by
  unfold Machine.cmdLeave
  split_ifs
  · exact .answers _ _ _ _ .nothing
  · exact .leaves _ _ _ _

theorem Executes.cmdSetMode : Executes s (cmdSetMode src operand s) := by
  unfold Machine.cmdSetMode setModePass setModeConvert
  split
  · split_ifs with _ _ hwork
    · exact .answers _ _ _ _ .nothing
    · exact .answers _ _ _ _ .nothing
    · exact .answers _ _ _ _ (.passes (Bool.eq_false_iff.mpr hwork))
    · exact .answers _ _ _ _ .converts
    · exact .answers _ _ _ _ .nothing
  · exact .answers _ _ _ _ .nothing

theorem Executes.cmdStationReset : Executes s (cmdStationReset src operand s) := by
  unfold Machine.cmdStationReset
  split_ifs
  · exact .answers _ _ _ _ .nothing
  · exact .resets _ _ _ _

theorem Executes.cmdLoadDensity : Executes s (cmdLoadDensity src operand s) := by
  unfold Machine.cmdLoadDensity
  split_ifs with hlen
  · exact .answers _ _ _ _ .nothing
  · exact .answers _ _ _ _ .nothing
  · dsimp only
    split_ifs
    · exact .answers _ _ _ _ (.table operand (not_ne_iff.mp hlen))
    · exact .answers _ _ _ _ (.tableRepaired operand (not_ne_iff.mp hlen))

theorem Executes.cmdLoadSettings : Executes s (cmdLoadSettings src operand s) := by
  unfold Machine.cmdLoadSettings
  split_ifs with hlen hmode
  · exact .answers _ _ _ _ .nothing
  · exact .answers _ _ _ _ .nothing
  · dsimp only
    split
    · exact .answers _ _ _ _ .nothing
    · rename_i v hv
      split_ifs with hgood
      · exact .answers _ _ _ _ .nothing
      · exact .answers _ _ _ _
          (.settings operand v (not_ne_iff.mp hlen) (by simpa [inConvert] using hmode) hv (not_ne_iff.mp hgood))

theorem Executes.cmdLoadPunch : Executes s (cmdLoadPunch src operand s) := by
  unfold Machine.cmdLoadPunch
  split_ifs with hlen
  · exact .answers _ _ _ _ .nothing
  · exact .answers _ _ _ _ .nothing
  · exact .answers _ _ _ _ (.punch operand (not_ne_iff.mp hlen))

/-- The bytes behind the count, four to a placement (R207). -/
theorem readPlacements_length (body : List Byte) : (readPlacements body).length = body.length / 4 := by
  induction body using readPlacements.induct with
  | case1 f c w j rest ih => simp only [readPlacements, List.length_cons, ih]; omega
  | case2 body hshort =>
    rcases body with _ | ⟨f, _ | ⟨c, _ | ⟨w, _ | ⟨j, rest⟩⟩⟩⟩
    · rfl
    · simp [readPlacements]
    · simp [readPlacements]
    · simp [readPlacements]
    · exact absurd rfl (hshort f c w j rest)

theorem Executes.cmdLoadFields : Executes s (cmdLoadFields src operand s) := by
  unfold Machine.cmdLoadFields loadPlacements
  split
  · exact .answers _ _ _ _ .nothing
  · rename_i count body
    split_ifs with hlen
    · exact .answers _ _ _ _ .nothing
    · exact .answers _ _ _ _ .nothing
    · split
      · exact .answers _ _ _ _ .nothing
      · rename_i map hmap
        refine .answers _ _ _ _ (.fields _ map ?_ hmap)
        rw [readPlacements_length]
        omega

theorem Executes.cmdListAppend : Executes s (cmdListAppend src operand s) := by
  unfold Machine.cmdListAppend checkAppend
  split
  · exact .answers _ _ _ _ .nothing
  · rename_i first es hread
    split
    · exact .answers _ _ _ _ .nothing
    · rename_i hvalid
      split_ifs with hseq hfull
      · exact .answers _ _ _ _ .nothing
      · exact .answers _ _ _ _ .nothing
      · refine .answers _ _ _ _ (.appends operand first es ⟨hread, hvalid, ?_, not_lt.mp hfull⟩)
        cases hexp : s.list.expected
        · exact .inl rfl
        · simpa [hexp] using hseq

theorem Executes.cmdListClear : Executes s (cmdListClear src operand s) := by
  unfold Machine.cmdListClear
  split_ifs
  · exact .answers _ _ _ _ .nothing
  · exact .answers _ _ _ _ .clearsList

theorem Executes.cmdListQuery : Executes s (cmdListQuery src operand s) := by
  unfold Machine.cmdListQuery
  split_ifs <;> exact .answers _ _ _ _ .nothing

theorem Executes.cmdFlush : Executes s (cmdFlush src operand s) := by
  unfold Machine.cmdFlush
  split_ifs
  · exact .answers _ _ _ _ .nothing
  · exact .answers _ _ _ _ .flushes

theorem Executes.resume (choice : Byte) : Executes s (resume src choice s) := by
  unfold Machine.resume resumeReply
  by_cases hheld : s.output.held = true
  · rw [if_pos hheld]
    cases hjam : s.output.jam with
    | none => exact .answers _ _ _ _ .nothing
    | some i =>
      dsimp only
      split_ifs with _ hroom
      · exact .answers _ _ _ _ .nothing
      · exact .answers _ _ _ _ (.reissues i hheld hjam (not_le.mp hroom))
      · exact .answers _ _ _ _ (.drops i hheld hjam)
  · rw [if_neg hheld]
    exact .answers _ _ _ _ .nothing

theorem Executes.cmdResumeOutput : Executes s (cmdResumeOutput src operand s) := by
  unfold Machine.cmdResumeOutput
  split
  · split_ifs
    · exact .resume src _
    · exact .answers _ _ _ _ .nothing
  · exact .answers _ _ _ _ .nothing

theorem Executes.cmdReadStatus : Executes s (cmdReadStatus src operand s) := by
  unfold Machine.cmdReadStatus
  split_ifs <;> exact .answers _ _ _ _ .nothing

theorem Executes.cmdReadCounters : Executes s (cmdReadCounters src operand s) := by
  unfold Machine.cmdReadCounters
  split
  · dsimp only
    split_ifs
    · exact .answers _ _ _ _ .nothing
    · exact .answers _ _ _ _ .clearsCounters
    · exact .answers _ _ _ _ .nothing
  · exact .answers _ _ _ _ .nothing

theorem Executes.cmdReadEvents : Executes s (cmdReadEvents src operand s) := by
  unfold Machine.cmdReadEvents
  split_ifs <;> exact .answers _ _ _ _ .nothing

theorem Executes.cmdClearEvents : Executes s (cmdClearEvents src operand s) := by
  unfold Machine.cmdClearEvents
  split_ifs
  · exact .answers _ _ _ _ .nothing
  · exact .answers _ _ _ _ (.clearsEvents _)

theorem Executes.cmdSetMask : Executes s (cmdSetMask src operand s) := by
  unfold Machine.cmdSetMask
  split_ifs
  · exact .answers _ _ _ _ .nothing
  · exact .answers _ _ _ _ (.masks _)

theorem Executes.cmdArmNotice : Executes s (cmdArmNotice src operand s) := by
  unfold Machine.cmdArmNotice
  split_ifs
  · exact .answers _ _ _ _ .nothing
  · exact .answers _ _ _ _ .arms

theorem Executes.cmdIdentify : Executes s (cmdIdentify src operand s) := by
  unfold Machine.cmdIdentify
  split_ifs <;> exact .answers _ _ _ _ .nothing

theorem Executes.ite {c : Prop} [Decidable c] {t u : State} (h : Executes s t) (k : Executes s u) :
    Executes s (if c then t else u) := by
  split_ifs
  · exact h
  · exact k

/-- The codes of R206 one after another. -/
theorem Executes.execute (code : Byte) : Executes s (execute src code operand s) :=
  .ite (.cmdJoin src) <|
  .ite (.cmdLeave src operand) <|
  .ite (.cmdSetMode src operand) <|
  .ite (.cmdStationReset src operand) <|
  .ite (.cmdLoadDensity src operand) <|
  .ite (.cmdLoadSettings src operand) <|
  .ite (.cmdLoadPunch src operand) <|
  .ite (.cmdLoadFields src operand) <|
  .ite (.cmdListAppend src operand) <|
  .ite (.cmdListClear src operand) <|
  .ite (.cmdListQuery src operand) <|
  .ite (.cmdFlush src operand) <|
  .ite (.cmdResumeOutput src operand) <|
  .ite (.cmdReadStatus src operand) <|
  .ite (.cmdReadCounters src operand) <|
  .ite (.cmdReadEvents src operand) <|
  .ite (.cmdClearEvents src operand) <|
  .ite (.cmdSetMask src operand) <|
  .ite (.cmdArmNotice src operand) <|
  .ite (.cmdIdentify src operand) <|
  .answers _ _ _ _ .nothing

end

/-! What a record and any other command does. -/

/-- A COMMAND handed to the command unit is ignored, dropped, or executed with the place of its REPLY reserved (R163, R170). -/
inductive Takes (s : State) : State → Prop where
  | ignored : Takes s s
  | dropped : Takes s (advance .droppedCommands s)
  | executed {t : State} : controlRoom s.line = true → Executes (reservePlace s) t → Takes s t

theorem Takes.takeCommand (src : Byte) (payload : List Byte) (s : State) : Takes s (takeCommand src payload s) := by
  unfold Machine.takeCommand
  split
  · exact .dropped
  · split_ifs with _ hroom
    · exact .ignored
    · exact .executed hroom (.execute _ _ _)
    · exact .dropped

/-- The film traffic that reaches the tracker in CONVERT (R3 to R7, R154). -/
inductive Film (s : State) : State → Prop where
  | reel (r : ReelParams) : Film s (takeReel r s)
  | mark (m : MarkClass) (c : Nat) : Film s (takeMark m c s)
  | scan (payload : List Byte) : Film s (takeScan payload s)
  | reelEnd : Film s (takeReelEnd s)

theorem Film.takeFilm {r : Record} {s t : State} (h : takeFilm r s = some t) : s.line.mode = .convert ∧ Film s t := by
  unfold Machine.takeFilm at h
  split_ifs at h with hconvert
  all_goals cases h
  · exact ⟨hconvert.2, .reel _⟩
  · exact ⟨hconvert.2, .mark _ _⟩
  · exact ⟨hconvert.2, .scan _⟩
  · exact ⟨hconvert.2, .reelEnd⟩

/-- Everything the sorting of a good record can do (R152 to R154). -/
inductive Sorts (s : State) : State → Prop where
  | discards : Sorts s s
  | forwards (r : Record) : Sorts s (forwardRecord r s)
  | rolls (r : Record) (n : Nat) : s.line.mode ≠ .bypass → Sorts s (takeRoll r n s)
  | takes {t : State} : Takes s t → Sorts s t
  | takesOn {t : State} (r : Record) : Takes s t → Sorts s (forwardRecord r t)
  | reports (seq : Nat) (jammed : Bool) : s.line.mode = .convert → Sorts s (takeDone seq jammed s)
  | strays : Sorts s (strayDone s)
  | films {t : State} : s.line.mode = .convert → Film s t → Sorts s t

theorem Sorts.sortBypass (r : Record) (s : State) : Sorts s (sortBypass r s) := by
  unfold Machine.sortBypass
  dsimp only
  split_ifs
  · split
    · exact .takes (.takeCommand _ _ _)
    · exact .takesOn r (.takeCommand _ _ _)
  · split
    · exact .discards
    · exact .forwards r

theorem Sorts.sortStored {s : State} (r : Record) (hmode : s.line.mode ≠ .bypass) : Sorts s (sortStored r s) := by
  unfold Machine.sortStored takeReport
  split_ifs with _ _ _ _ _ hconvert
  · exact .discards
  · exact .rolls r _ hmode
  · exact .takes (.takeCommand _ _ _)
  · exact .takesOn r (.takeCommand _ _ _)
  · exact .reports _ _ hconvert
  · exact .strays
  · split
    · rename_i t hfilm
      obtain ⟨hconvert, h⟩ := Film.takeFilm hfilm
      exact .films hconvert h
    · exact .forwards r

/-- Everything a command can do before the arbiter's choice (R148 to R151, R161). -/
inductive Effect (s : State) : State → Prop where
  | nothing : Effect s s
  | powers (pins : BitVec 4) : Effect s (powerOnState pins s)
  | nrstFalls : Effect s (nrstFalls s)
  | straps (pins : BitVec 4) : Effect s (strapMoves pins s)
  | hunts : s.signals.nrstLow = false → s.line.alignment = .hunt → Effect s (huntGood s)
  | huntsBad : s.signals.nrstLow = false → s.line.alignment = .hunt → Effect s { s with line.goodRun := 0 }
  | slips : listening s → Effect s (lockedBad s)
  | sorts {t : State} : listening s → Sorts (sorted s) t → Effect s t
  | flushExpires : Effect s (expireFlush s)
  | deadlineExpires (seq : Nat) : Effect s (expireDeadline seq s)
  | portFrees : Effect s (finishSending s)
  | pathStores : Effect s (pathToStored s)
  | drainEnds : Effect s (drainEnd s)

section
variable {s : State}

theorem Effect.receiveGood (r : Record) : Effect s (receiveGood r s) := by
  unfold Machine.receiveGood
  split_ifs with hnrst
  · exact .nothing
  · have hhigh := Bool.eq_false_iff.mpr hnrst
    split
    · rename_i hhunt
      exact .hunts hhigh hhunt
    · rename_i hlocked
      refine .sorts ⟨hhigh, hlocked⟩ ?_
      unfold lockedGood
      dsimp only
      split
      · exact .sortBypass r _
      · rename_i hmode
        exact .sortStored r (by simp [sorted, hmode])
      · rename_i hmode
        exact .sortStored r (by simp [sorted, hmode])

theorem Effect.receiveBad : Effect s (receiveBad s) := by
  unfold Machine.receiveBad
  split_ifs with hnrst
  · exact .nothing
  · have hhigh := Bool.eq_false_iff.mpr hnrst
    split
    · rename_i hhunt
      exact .huntsBad hhigh hhunt
    · rename_i hlocked
      exact .slips ⟨hhigh, hlocked⟩

theorem Effect.receive (r : Record) : Effect s (receive r s) := by
  unfold Machine.receive
  split_ifs
  · exact .receiveGood r
  · exact .receiveBad

theorem Effect.receiveBytes (bytes : List Byte) : Effect s (receiveBytes bytes s) := by
  unfold Machine.receiveBytes
  split
  · exact .receiveGood _
  · exact .receiveBad

/-- Every command has its effect, and then the arbiter chooses (R164). -/
theorem exec_effect (c : Instr) (s : State) : ∃ t, Effect s t ∧ exec c s = .next (choose t) := by
  rcases hrecord : recordOf c with _ | r
  · cases c <;> simp only [recordOf, reduceCtorEq] at hrecord
    case powerOn pins => exact ⟨_, .powers pins, rfl⟩
    case nrstAssert => exact ⟨_, .nrstFalls, rfl⟩
    case nrstRelease pins => exact ⟨_, .powers pins, rfl⟩
    case strapChanged pins => exact ⟨_, .straps pins, rfl⟩
    case badRecord bytes => exact ⟨_, .receiveBytes bytes, rfl⟩
    case flushTimerExpiry => exact ⟨_, .flushExpires, rfl⟩
    case doneDeadlineExpiry seq => exact ⟨_, .deadlineExpires seq.toNat, rfl⟩
    case arbiterChoice => exact ⟨_, .nothing, rfl⟩
    case pathToStored => exact ⟨_, .pathStores, rfl⟩
    case leaveDrainEnd => exact ⟨_, .drainEnds, rfl⟩
    case transmitComplete => exact ⟨_, .portFrees, rfl⟩
  · exact ⟨_, .receive r, by rw [exec_of_recordOf hrecord, choose_eq_arbitrated]⟩

/-- A step is a tenth of a second, or a command's effect on the state with the queue's rest and the choice after it. -/
theorem step_cases {s t : State} (h : step s = .next t) :
    t = tick s ∨ ∃ rest u, Effect { s with pending := rest } u ∧ t = choose u := by
  unfold step at h
  split at h
  · exact .inl (by injection h with h; exact h.symm)
  · rename_i c rest _
    obtain ⟨u, heffect, hexec⟩ := exec_effect c { s with pending := rest }
    rw [hexec] at h
    exact .inr ⟨rest, u, heffect, by injection h with h; exact h.symm⟩

end

end Sys2Proof.Machine
end

section
/-! Steps as moves of the blocks, and film traffic as a run of small steps: each law of the blocks is then a matter of one move
or one film step at a time. -/

namespace Sys2Proof.Machine

open Sys2Proof.Safety

/-! Moves of the blocks. -/

/-- What one operation can do to the blocks behind the line port. -/
inductive BlockMove (s : State) : State → Prop where
  | same {t : State} : SameBlocks s t → BlockMove s t
  | powers (pins : BitVec 4) : BlockMove s (powerOnState pins s)
  | acts {t : State} : Acts s t → BlockMove s t
  | resets (mode : StationMode) : mode ≠ .convert → BlockMove s { resetBlocks s with line.mode := mode }
  | films {t : State} : s.line.mode = .convert → Film s t → BlockMove s t
  | flushExpires : BlockMove s (expireFlush s)
  | reports (es : List InFlight) : es.length ≤ s.output.inFlight.length → BlockMove s { s with output.inFlight := es }
  | jams (i : Instruction) : s.line.mode = .convert →
      BlockMove s (requestHalt .jam true { s with output.jam := some i, output.held := true })
  | sends (i : Instruction) (rest : List Instruction) : s.output.queue = i :: rest → maySend s = true →
      BlockMove s (takeInstruction i rest s)
  | countsDown : BlockMove s (countDown s)

/-- Moves of the blocks one after another. -/
abbrev BlockMoves : State → State → Prop := Relation.ReflTransGen BlockMove

section
variable {s t : State}

theorem BlockMove.moves (h : BlockMove s t) : BlockMoves s t := .single h

theorem SameBlocks.moves (h : SameBlocks s t) : BlockMoves s t := .single (.same h)

theorem Executes.moves (h : Executes s t) : BlockMoves s t := by
  cases h with
  | answers src code status data hacts => exact (BlockMove.acts hacts).moves.trans (SameBlocks.reply ..).moves
  | resets src code status data =>
    exact (SameBlocks.reply src code status data s).moves.trans (BlockMove.resets .pass (by decide)).moves
  | leaves src code status data =>
    refine (SameBlocks.reply src code status data s).moves.trans
      ((BlockMove.resets .bypass (by decide)).moves.trans (SameBlocks.moves ?_))
    exact .ofLine _ _

theorem Takes.moves (h : Takes s t) : BlockMoves s t := by
  cases h with
  | ignored => exact .refl
  | dropped => exact (SameBlocks.advance (by decide) s).moves
  | executed _ hexec => exact (SameBlocks.ofLine s _).moves.trans hexec.moves

/-- A report takes its entry and the older ones out of flight; the rest of it is counters, events and a jam (R127 to R130). -/
theorem takeDone_moves (seq : Nat) (jammed : Bool) (hmode : s.line.mode = .convert) :
    BlockMoves s (takeDone seq jammed s) := by
  unfold takeDone
  split
  · exact (SameBlocks.strayDone s).moves
  · rename_i e newer hdrop
    have hshorter : newer.length ≤ s.output.inFlight.length := by
      have hle := (List.dropWhile_suffix (l := s.output.inFlight) fun e => !hasSeq seq e).length_le
      rw [hdrop, List.length_cons] at hle
      omega
    dsimp only
    refine (BlockMove.reports newer hshorter).moves.trans ?_
    generalize hu : writeOffEach _ { s with output.inFlight := newer } = u
    have hsame : SameBlocks { s with output.inFlight := newer } u := hu ▸ SameBlocks.writeOffEach _ _
    refine hsame.moves.trans ?_
    split_ifs
    · unfold takeJam
      split
      · exact (BlockMove.jams e.instruction (hsame.mode.trans hmode)).moves.trans (SameBlocks.occur .jam _).moves
      · exact (SameBlocks.advance (by decide) u).moves.trans (SameBlocks.occur .jam _).moves
    · exact .refl

theorem expireDeadline_moves (seq : Nat) : BlockMoves s (expireDeadline seq s) := by
  unfold expireDeadline
  split_ifs
  · exact (BlockMove.reports _ (List.length_eraseP_le ..)).moves.trans
      ((SameBlocks.advance (by decide) _).trans (SameBlocks.occur .doneTimeout _)).moves
  · exact .refl

theorem Sorts.moves (h : Sorts s t) : BlockMoves s t := by
  cases h with
  | discards => exact .refl
  | forwards r => exact (SameBlocks.forwardRecord r s).moves
  | rolls r n => exact (SameBlocks.takeRoll r n s).moves
  | takes htakes => exact htakes.moves
  | takesOn r htakes => exact htakes.moves.trans (SameBlocks.forwardRecord r _).moves
  | reports seq jammed hmode => exact takeDone_moves seq jammed hmode
  | strays => exact (SameBlocks.strayDone s).moves
  | films hmode hfilm => exact (BlockMove.films hmode hfilm).moves

theorem Effect.moves (h : Effect s t) : BlockMoves s t := by
  cases h with
  | nothing => exact .refl
  | powers pins => exact (BlockMove.powers pins).moves
  | nrstFalls => exact SameBlocks.moves ⟨rfl, rfl, rfl, rfl, rfl, rfl, rfl, rfl, rfl, rfl, rfl⟩
  | straps pins => exact (SameBlocks.strapMoves pins s).moves
  | hunts => exact (SameBlocks.huntGood s).moves
  | huntsBad => exact (SameBlocks.ofLine s _).moves
  | slips => exact (SameBlocks.lockedBad s).moves
  | sorts _ hsorts => exact (SameBlocks.ofLine s _).moves.trans hsorts.moves
  | flushExpires => exact BlockMove.flushExpires.moves
  | deadlineExpires seq => exact expireDeadline_moves seq
  | portFrees => exact (SameBlocks.finishSending s).moves
  | pathStores =>
    unfold pathToStored
    split_ifs
    · exact (SameBlocks.ofLine s _).moves
    · exact .refl
  | drainEnds =>
    unfold drainEnd
    split_ifs
    · exact (SameBlocks.ofLine s _).moves
    · exact .refl

/-- Of the arbiter's choices only a sent instruction is seen by the blocks (R164). -/
theorem choose_moves (s : State) : BlockMoves s (choose s) := by
  rcases choose_cases s with h | ⟨-, -, ⟨c, rest, -, h⟩ | ⟨i, rest, -, hqueue, hmay, -, h⟩ | ⟨r, rest, -, -, -, h⟩⟩ <;> rw [h]
  · exact (SameBlocks.ofLine s _).moves
  · refine Relation.ReflTransGen.trans ?_ (BlockMove.moves (.sends i rest ?_ ?_))
    · exact (SameBlocks.ofLine s _).moves
    · exact hqueue
    · exact hmay
  · exact (SameBlocks.ofLine s _).moves

/-- Beside the running timers a tenth of a second touches only what the machine itself keeps (R94, R131). -/
theorem tick_moves (s : State) : BlockMoves s (tick s) := by
  refine BlockMove.countsDown.moves.trans (SameBlocks.moves ?_)
  unfold tick
  dsimp only
  split <;> exact ⟨rfl, rfl, rfl, rfl, rfl, rfl, rfl, rfl, rfl, rfl, rfl⟩

theorem step_moves (h : step s = .next t) : BlockMoves s t := by
  rcases step_cases h with rfl | ⟨rest, u, heffect, rfl⟩
  · exact tick_moves s
  · refine (SameBlocks.moves (t := { s with pending := rest }) ?_).trans (heffect.moves.trans (choose_moves u))
    exact ⟨rfl, rfl, rfl, rfl, rfl, rfl, rfl, rfl, rfl, rfl, rfl⟩

/-- What every move keeps, every step keeps. -/
theorem step_keeps_of_moves {P : State → Prop} (hmove : ∀ s t, BlockMove s t → P s → P t) (h : step s = .next t)
    (hs : P s) : P t := by
  have hmoves := step_moves h
  clear h
  induction hmoves with
  | refl => exact hs
  | tail _ hlast ih => exact hmove _ _ hlast ih

end

/-! Film steps. -/

/-- The small steps that film traffic, the flush timer's expiry and FLUSH are made of. -/
inductive FilmStep (s : State) : State → Prop where
  | tracks (t : FrameTracker) : FilmStep s { s with tracker := t }
  | empties (last : Option DensityResult) :
      FilmStep s { s with density.acc := emptyAccumulators, density.last := last }
  | samples (x : Sample) : FilmStep s (takeSample x s)
  | times (v : Option Nat) : FilmStep s { s with matching.flushTimer := v }
  | occurs (e : Event) : FilmStep s (occur e s)
  | counts (k : Counter) : k ≠ .framesAccepted ∧ k ≠ .cards ∧ k ≠ .wastes → FilmStep s (advance k s)
  | halts (k : HaltReason) (b : Bool) : k = .list ∨ k = .lost → FilmStep s (requestHalt k b s)
  | takes (f : ClosedFrame) {t : State} : takeFrame f s = some t → FilmStep s t
  | closes : FilmStep s (closeAndRelease s)
  | releases : FilmStep s (release s)

/-- Film steps one after another. -/
abbrev FilmRun : State → State → Prop := Relation.ReflTransGen FilmStep

section
variable (s : State)

theorem FilmStep.run {s t : State} (h : FilmStep s t) : FilmRun s t := .single h

theorem noteLoss_run : FilmRun s (noteLoss s) :=
  (FilmStep.occurs .frameLost).run.trans (FilmStep.counts .lostFrames (by decide)).run

theorem emptyAcc_run : FilmRun s (emptyAcc s) := (FilmStep.empties s.density.last).run

theorem loseFrame_run (f : ClosedFrame) : FilmRun s (loseFrame f s) :=
  (FilmStep.tracks _).run.trans ((emptyAcc_run _).trans (noteLoss_run _))

theorem takeLoss_run (o : Occasion) (f : ClosedFrame) : FilmRun s (takeLoss o f s) := by
  cases o with
  | live => exact (loseFrame_run s f).trans ((FilmStep.tracks _).run.trans (FilmStep.halts .lost true (.inr rfl)).run)
  | reelChange => exact (FilmStep.tracks _).run.trans (noteLoss_run _)
  | reversal => exact loseFrame_run s f
  | exhausted => exact loseFrame_run s f

theorem handOver_run (o : Occasion) (fs : List ClosedFrame) : FilmRun s (handOver o fs s) := by
  induction fs generalizing s with
  | nil => exact .refl
  | cons f fs ih =>
    unfold handOver
    split
    · exact takeLoss_run s o f
    · rename_i t htake
      exact (FilmStep.takes f htake).run.trans ((FilmStep.tracks _).run.trans (ih _))

theorem flushBuffer_run (o : Occasion) : FilmRun s (flushBuffer o s) :=
  (FilmStep.tracks _).run.trans (handOver_run _ o _)

theorem acquire_run (o : Occasion) (f : ClosedFrame) : FilmRun s (acquire o f s) := by
  unfold acquire
  dsimp only
  split_ifs
  · exact (FilmStep.tracks _).run.trans (handOver_run _ o _)
  · exact (FilmStep.tracks _).run.trans ((FilmStep.occurs .acquireFail).run.trans
      ((FilmStep.tracks _).run.trans (handOver_run _ o _)))
  · exact (FilmStep.tracks _).run
  · exact (FilmStep.tracks _).run.trans (handOver_run _ o _)

theorem pitchEvent_run (c : PitchClass) : FilmRun s (pitchEvent c s) := by
  cases c with
  | sliver => exact (FilmStep.occurs .sliver).run
  | gap => exact (FilmStep.occurs .missedMark).run
  | normal => exact .refl
  | long => exact .refl
  | unchecked => exact .refl

theorem afterClose_run (f : ClosedFrame) : FilmRun s (afterClose f s) := by
  have hclassed := (FilmStep.tracks (s := s) { s.tracker with frameCounter := f.number, assembly := none }).run.trans
    (pitchEvent_run _ f.pitchClass)
  unfold afterClose
  dsimp only
  split_ifs
  · exact (hclassed.trans (FilmStep.occurs .trackMismatch).run).trans (FilmStep.empties (some f.result)).run
  · exact hclassed.trans (FilmStep.empties (some f.result)).run

theorem exhaust_run (o : Occasion) : FilmRun s (exhaust o s) :=
  ((FilmStep.tracks _).run.trans (emptyAcc_run _)).trans
    ((FilmStep.occurs .reelFull).run.trans ((FilmStep.tracks _).run.trans (flushBuffer_run _ _)))

theorem routeFrame_run (o : Occasion) (f : ClosedFrame) : FilmRun s (routeFrame o f s) := by
  unfold routeFrame
  split_ifs
  · exact acquire_run s o f
  · exact handOver_run s o [f]

theorem closeAssembly_run (o : Occasion) (p : PitchSource) : FilmRun s (closeAssembly o p s) := by
  unfold closeAssembly
  split
  · exact .refl
  · split_ifs
    · exact exhaust_run s o
    · exact (afterClose_run s _).trans (routeFrame_run _ o _)

theorem startFrame_run (m : MarkClass) (c : Nat) : FilmRun s (startFrame m c s) :=
  (FilmStep.tracks _).run.trans (emptyAcc_run _)

theorem forwardMark_run (m : MarkClass) (c : Nat) : FilmRun s (forwardMark m c s) := by
  unfold forwardMark
  dsimp only
  split_ifs
  · exact (closeAssembly_run s _ _).trans (startFrame_run _ m c)
  · exact closeAssembly_run s _ _

theorem reverse_run : FilmRun s (reverse s) := by
  have habandon := (FilmStep.tracks (s := s) { s.tracker with assembly := none }).run.trans (emptyAcc_run _)
  unfold reverse
  dsimp only
  split_ifs
  · exact (habandon.trans (flushBuffer_run _ .reversal)).trans
      ((FilmStep.occurs .reversal).run.trans (FilmStep.tracks _).run)
  · exact habandon.trans ((FilmStep.occurs .reversal).run.trans (FilmStep.tracks _).run)

theorem rewoundMark_run (m : MarkClass) (c : Nat) : FilmRun s (rewoundMark m c s) := by
  unfold rewoundMark
  split_ifs
  · exact (FilmStep.occurs .reversal).run
  · exact (FilmStep.counts .replaysSkipped (by decide)).run
  · exact (FilmStep.tracks _).run.trans (startFrame_run _ m c)

theorem lostMark_run (c : Nat) : FilmRun s (lostMark c s) := by
  unfold lostMark
  split_ifs
  · exact (FilmStep.occurs .reversal).run.trans
      ((FilmStep.tracks _).run.trans (FilmStep.halts .lost false (.inr rfl)).run)
  · exact .refl

theorem newMark_run (m : MarkClass) (c : Nat) : FilmRun s (newMark m c s) := by
  unfold newMark
  split
  · split_ifs
    · exact reverse_run s
    · exact forwardMark_run s m c
  · split_ifs
    · exact reverse_run s
    · exact forwardMark_run s m c
  · exact rewoundMark_run s m c
  · exact lostMark_run s c
  · exact .refl
  · exact .refl

theorem ignoreInIdle_run : FilmRun s (ignoreInIdle s) :=
  (FilmStep.counts .ignoredInIdle (by decide)).run.trans (FilmStep.occurs .noReel).run

theorem trackMark_run (m : MarkClass) (c : Nat) : FilmRun s (trackMark m c s) := by
  unfold trackMark
  split
  · exact ignoreInIdle_run s
  · exact .refl
  · split_ifs
    · exact (FilmStep.counts .duplicates (by decide)).run
    · exact (newMark_run s m c).trans (FilmStep.tracks _).run

theorem restartTimer_run : FilmRun s (restartTimer s) := by
  unfold restartTimer
  split_ifs <;> exact (FilmStep.times _).run

theorem settleTimer_run : FilmRun s (settleTimer s) := by
  unfold settleTimer
  split_ifs
  · exact .refl
  · exact (FilmStep.times _).run

theorem reportList_run : FilmRun s (reportList s) := (FilmStep.halts .list _ (.inl rfl)).run

theorem takeSamples_run (xs : List Sample) : FilmRun s (takeSamples xs s) := by
  induction xs generalizing s with
  | nil => exact .refl
  | cons x xs ih => exact (FilmStep.samples x).run.trans (ih _)

theorem takeLine_run (a : Assembly) (xs : List Sample) : FilmRun s (takeLine a xs s) := by
  unfold takeLine
  split_ifs
  · exact (FilmStep.tracks _).run.trans (takeSamples_run _ xs)
  · exact (FilmStep.tracks _).run.trans (FilmStep.occurs .sampleOverflow).run

theorem trackScan_run (payload : List Byte) : FilmRun s (trackScan payload s) := by
  unfold trackScan
  split
  · exact ignoreInIdle_run s
  · exact .refl
  · split
    · exact .refl
    · split
      · exact (FilmStep.counts .badScanLines (by decide)).run
      · exact takeLine_run s _ _

theorem endReel_run : FilmRun s (endReel s) :=
  (closeAssembly_run s _ _).trans ((flushBuffer_run _ _).trans FilmStep.closes.run)

theorem leaveReel_run (next : TrackerState) (wasLost : Bool) : FilmRun s (leaveReel next wasLost s) := by
  unfold leaveReel
  dsimp only
  split_ifs
  · exact (FilmStep.tracks _).run.trans (FilmStep.halts .lost false (.inr rfl)).run
  · exact (FilmStep.tracks _).run

theorem flushAssembly_run : FilmRun s (flushAssembly s) := by
  unfold flushAssembly
  split_ifs
  · exact closeAssembly_run s _ _
  · exact .refl

/-! The film traffic, the flush timer's expiry and FLUSH. -/

theorem Film.run {s t : State} (h : Film s t) : FilmRun s t := by
  cases h with
  | reel r =>
    exact (endReel_run s).trans ((FilmStep.tracks _).run.trans
      ((leaveReel_run _ .acquire _).trans ((settleTimer_run _).trans (reportList_run _))))
  | mark m c => exact (trackMark_run s m c).trans ((restartTimer_run _).trans (reportList_run _))
  | scan payload => exact (trackScan_run s payload).trans (restartTimer_run _)
  | reelEnd =>
    unfold takeReelEnd
    split_ifs
    · exact ignoreInIdle_run s
    · exact (endReel_run s).trans ((leaveReel_run _ .idle _).trans ((settleTimer_run _).trans (reportList_run _)))

theorem expireFlush_run : FilmRun s (expireFlush s) := by
  unfold expireFlush
  split
  · exact .refl
  · exact (flushAssembly_run s).trans (FilmStep.closes.run.trans
      (FilmStep.releases.run.trans ((FilmStep.times none).run.trans (reportList_run _))))

theorem flushCommand_run : FilmRun s (reportList (settleTimer (closeAndRelease s))) :=
  FilmStep.closes.run.trans ((settleTimer_run _).trans (reportList_run _))

end

/-- What every film step keeps, a run keeps. -/
theorem FilmRun.keeps {P : State → Prop} (hstep : ∀ s t, FilmStep s t → P s → P t) {s t : State} (h : FilmRun s t)
    (hs : P s) : P t := by
  induction h with
  | refl => exact hs
  | tail _ hlast ih => exact hstep _ _ hlast ih

end Sys2Proof.Machine
end

section
/-! The matching engine's part of film traffic as a run of small steps (R59, R70 to R93): taking a frame, closing a drawing and
release; and what such a run never touches. -/

namespace Sys2Proof.Machine

open Sys2Proof.Safety

/-! Slots rewritten in place keep their frame numbers (R70). -/

/-- The frame numbers of the held slots, in the order of the hold queue. -/
def numbersOf (hold : List Slot) : List Nat := hold.map (fun x => x.number)

theorem numbersOf_map {g : Slot → Slot} (hg : ∀ x, (g x).number = x.number) (hold : List Slot) :
    numbersOf (hold.map g) = numbersOf hold := by
  simp [numbersOf, Function.comp_def, hg]

theorem numbersOf_modifyNewest (p : Slot → Bool) {g : Slot → Slot} (hg : ∀ x, (g x).number = x.number) (hold : List Slot) :
    numbersOf (modifyNewest p g hold) = numbersOf hold := by
  induction hold with
  | nil => rfl
  | cons x xs ih =>
    unfold modifyNewest
    split_ifs
    · simp [numbersOf, hg]
    · simpa [numbersOf] using ih

@[simp] theorem withFlags_number (g : SlotFlags → SlotFlags) (x : Slot) : (withFlags g x).number = x.number := by
  unfold withFlags
  split <;> rfl

@[simp] theorem makeException_number (cause : ExceptionCause) (x : Slot) : (makeException cause x).number = x.number := by
  unfold makeException
  split <;> rfl

@[simp] theorem supersede_number (x : Slot) : (supersede x).number = x.number := rfl

@[simp] theorem bindSlot_number (e : Entry) (serial : Nat) (x : Slot) : (bindSlot e serial x).number = x.number := by
  unfold bindSlot
  split
  · split_ifs <;> rfl
  · split_ifs <;> rfl
  · rfl

/-! Small steps. -/

/-- The small steps that taking a frame, closing a drawing and release are made of. -/
inductive FrameStep (s : State) : State → Prop where
  | occurs (e : Event) : FrameStep s (occur e s)
  | supersedes : FrameStep s (advance .superseded s)
  | rewrites (hold : List Slot) : numbersOf hold = numbersOf s.matching.hold →
      FrameStep s { s with matching.hold := hold }
  | shuts (recent : Option Drawing) : FrameStep s { s with matching.drawing := none, matching.recent := recent }
  | opensBound (e : Entry) (rest : List Entry) (serial : Nat) : s.list.entries = e :: rest →
      FrameStep s { s with
        list.entries := rest
        matching.serial := serial
        matching.drawing := some { serial := serial, entry := some e, sheetsSeen := 1 }
        matching.recent := none }
  | opensUnbound (serial : Nat) :
      FrameStep s { s with
        matching.serial := serial
        matching.drawing := some { serial := serial, entry := none, sheetsSeen := 1 }
        matching.recent := none }
  | grows (d : Drawing) : s.matching.drawing = some d → sheetsRemaining d = true →
      FrameStep s { s with matching.drawing := some { d with sheetsSeen := d.sheetsSeen + 1 } }
  | leaves (x y : Slot) (rest : List Slot) : s.matching.hold = x :: rest → s.output.queue.length < 24 →
      FrameStep s (emitSlot y { s with matching.hold := rest })
  | joins (slot : Slot) :
      FrameStep s (advance .framesAccepted { s with matching.hold := s.matching.hold ++ [slot] })

/-- Such steps one after another. -/
abbrev FrameRun : State → State → Prop := Relation.ReflTransGen FrameStep

section
variable {s t : State}

theorem FrameStep.run (h : FrameStep s t) : FrameRun s t := .single h

/-- What every such step keeps, a run keeps. -/
theorem FrameRun.keeps {P : State → Prop} (hstep : ∀ s t, FrameStep s t → P s → P t) (h : FrameRun s t) (hs : P s) : P t := by
  induction h with
  | refl => exact hs
  | tail _ hlast ih => exact hstep _ _ hlast ih

variable (s)

theorem release_frameRun : FrameRun s (release s) := by
  refine release_induction (P := FrameRun s) (fun t x rest hhold _ hroom hrun => hrun.trans (FrameStep.run ?_)) s .refl
  have hleave := FrameStep.leaves x x rest hhold hroom
  rwa [leaveHead, hhold]

theorem listLowTest_frameRun : FrameRun s (listLowTest s) := by
  unfold listLowTest
  split_ifs
  · exact (FrameStep.occurs .listLow).run
  · exact .refl

theorem closeBound_frameRun (d : Drawing) (e : Entry) : FrameRun s (closeBound d e s) := by
  unfold closeBound
  split_ifs
  · exact (FrameStep.rewrites _ (numbersOf_modifyNewest _ (withFlags_number _) _)).run.trans
      (FrameStep.occurs .missingSheet).run
  · exact .refl

theorem closeUnbound_frameRun (d : Drawing) : FrameRun s (closeUnbound d s) := by
  refine (FrameStep.rewrites _ (numbersOf_map (fun x => ?_) _)).run.trans (FrameStep.occurs .unlistedFrame).run
  split_ifs <;> simp

theorem closeDrawing_frameRun : FrameRun s (closeDrawing s) := by
  unfold closeDrawing
  split
  · exact .refl
  · rename_i d _
    dsimp only
    split
    · exact (closeBound_frameRun s d _).trans (FrameStep.shuts (some d)).run
    · exact (closeUnbound_frameRun s d).trans (FrameStep.shuts (some d)).run

theorem closeAndRelease_frameRun : FrameRun s (closeAndRelease s) := by
  unfold closeAndRelease
  split
  · exact .refl
  · exact (closeDrawing_frameRun s).trans (release_frameRun _)

theorem openDrawing_frameRun : FrameRun s (openDrawing s) := by
  unfold openDrawing
  dsimp only
  split
  · rename_i e rest hentries
    exact (FrameStep.opensBound e rest _ hentries).run.trans (listLowTest_frameRun _)
  · exact (FrameStep.opensUnbound _).run.trans (FrameStep.occurs .listEmpty).run

theorem takeDoc_state (g : SlotFlags) : (takeDoc g s).state = openDrawing (closeDrawing s) := by
  unfold takeDoc
  dsimp only
  split <;> rfl

theorem takeDoc_frameRun (g : SlotFlags) : FrameRun s (takeDoc g s).state := by
  rw [takeDoc_state]
  exact (closeDrawing_frameRun s).trans (openDrawing_frameRun _)

theorem takeSheetOf_frameRun {d : Drawing} (g : SlotFlags) (hopen : s.matching.drawing = some d) :
    FrameRun s (takeSheetOf d g s).state := by
  unfold takeSheetOf
  split_ifs with hmore
  · exact (FrameStep.grows d hopen hmore).run
  · exact .refl

theorem takeLateRetake_frameRun : FrameRun s (takeLateRetake s).state := by
  unfold takeLateRetake
  split
  · exact (FrameStep.occurs .lateRetake).run
  · split
    · exact (FrameStep.occurs .lateRetake).run
    · exact (FrameStep.occurs .lateRetake).run.trans (FrameStep.occurs .unlistedFrame).run
  · exact (FrameStep.occurs .unlistedFrame).run

theorem takeRetake_frameRun : FrameRun s (takeRetake s).state := by
  unfold takeRetake
  split
  · exact takeLateRetake_frameRun s
  · split
    · exact (FrameStep.rewrites _ (numbersOf_modifyNewest _ supersede_number _)).run.trans FrameStep.supersedes.run
    · exact takeLateRetake_frameRun s

theorem takeCard_frameRun (mark : MarkClass) : FrameRun s (takeCard mark s).state := by
  unfold takeCard
  split
  · exact takeRetake_frameRun s
  · split
    · rename_i d hopen
      split_ifs
      · exact takeSheetOf_frameRun s _ hopen
      · exact takeDoc_frameRun s _
    · exact takeDoc_frameRun s _
  · split
    · rename_i d hopen
      exact takeSheetOf_frameRun s _ hopen
    · exact takeDoc_frameRun s _
  · exact takeDoc_frameRun s _
  · exact takeDoc_frameRun s _

theorem joinSlot_frameRun (slot : Slot) : FrameRun s (joinSlot slot s) :=
  (FrameStep.joins slot).run.trans (release_frameRun _)

theorem acceptFrame_frameRun (f : ClosedFrame) : FrameRun s (acceptFrame f s) := by
  unfold acceptFrame
  split
  · exact joinSlot_frameRun s _
  · exact (takeCard_frameRun s f.mark).trans (joinSlot_frameRun _ _)

theorem earlyUnlisted_frameRun (slot : Slot) : FrameRun s (earlyUnlisted slot s) := by
  unfold earlyUnlisted
  split
  · exact (FrameStep.occurs .unlistedFrame).run
  · exact .refl

end

section
variable {s t : State}

@[simp] theorem earlyUnlisted_matching (slot : Slot) (s : State) : (earlyUnlisted slot s).matching = s.matching := by
  unfold earlyUnlisted
  split <;> simp

@[simp] theorem earlyUnlisted_output (slot : Slot) (s : State) : (earlyUnlisted slot s).output = s.output := by
  unfold earlyUnlisted
  split <;> simp

/-- A head is released early only into an output queue with room, since without it the frame is refused (R75, R76). -/
theorem makeRoom_frameRun (h : s.matching.hold.length < 32 ∨ s.output.queue.length < 24) : FrameRun s (makeRoom s) := by
  unfold makeRoom
  split_ifs with hfull
  · have hroom : s.output.queue.length < 24 := h.resolve_left (not_lt.mpr hfull)
    unfold earlyRelease
    split
    · exact .refl
    · rename_i slot rest hhold
      refine (FrameStep.occurs .earlyRelease).run.trans ((earlyUnlisted_frameRun _ slot).trans
        (Relation.ReflTransGen.trans (FrameStep.leaves slot (earlySlot slot) rest ?_ ?_).run (release_frameRun _)))
      · simpa using hhold
      · simpa using hroom
  · exact .refl

/-- A frame is refused on its number or for want of room (R76). -/
theorem isRefused_iff (f : ClosedFrame) (s : State) :
    isRefused f s = true ↔
      (∃ tail, s.matching.hold.getLast? = some tail ∧ f.number ≤ tail.number) ∨
      (32 ≤ s.matching.hold.length ∧ 24 ≤ s.output.queue.length) := by
  rw [isRefused, Bool.or_eq_true, Bool.and_eq_true, decide_eq_true_iff, decide_eq_true_iff]
  refine or_congr ?_ Iff.rfl
  cases s.matching.hold.getLast? <;> simp

theorem takeFrame_frameRun {f : ClosedFrame} (h : takeFrame f s = some t) : FrameRun s t := by
  rcases takeFrame_cases f s with ⟨_, e⟩ | ⟨hrefused, e⟩
  · rw [e] at h
    cases h
  · rw [e] at h
    cases h
    refine (makeRoom_frameRun ?_).trans (acceptFrame_frameRun _ f)
    have hroom := mt (isRefused_iff f s).mpr (Bool.eq_false_iff.mp hrefused)
    omega

end

/-! What film traffic never touches. -/

/-- The control queue keeps its bounds, with the place of a record that a command is going to queue counted (R141, R163). -/
def ControlBounded (l : LinePort) : Prop :=
  (l.control.filter (fun c => !c.halt)).length + (if l.replyReserved then 1 else 0) ≤ 7 ∧
  (l.control.filter (fun c => c.halt)).length ≤ 1

/-- A record joins the control queue where there is room (R163). -/
theorem ControlBounded.append_other {l : LinePort} (h : ControlBounded l) (hroom : controlRoom l = true) (r : Record) :
    ControlBounded { l with control := l.control ++ [{ halt := false, record := r }] } := by
  have hlt := (controlRoom_iff l).mp hroom
  obtain ⟨-, hhalt⟩ := h
  refine ⟨?_, by simpa using hhalt⟩
  simp only [List.filter_append, List.length_append]
  simp only [Bool.not_false, List.filter_cons_of_pos, List.filter_nil, List.length_cons, List.length_nil]
  omega

/-- A halt report replaces the waiting one or is the only one (R141). -/
theorem ControlBounded.placeHaltReport {l : LinePort} (h : ControlBounded l) (r : Record) :
    ControlBounded { l with control := placeHaltReport r l.control } := by
  obtain ⟨hother, hhalt⟩ := h
  unfold Machine.placeHaltReport
  split_ifs with hany
  · have hsame (p : Bool → Bool) :
        ((l.control.map (fun c => if c.halt then { c with record := r } else c)).filter (fun c => p c.halt)).length =
          (l.control.filter (fun c => p c.halt)).length := by
      rw [List.filter_map, List.length_map]
      congr 2
      funext c
      simp only [Function.comp_apply]
      split_ifs <;> rfl
    exact ⟨(hsame (!·)).symm ▸ hother, (hsame id).symm ▸ hhalt⟩
  · have hnone : l.control.filter (fun c => c.halt) = [] := by simpa using hany
    exact ⟨by simpa using hother, by simp [hnone]⟩

/-- What film traffic leaves alone is as it was, and the control queue keeps its bounds. -/
structure FilmFrame (s t : State) : Prop where
  keeps : filmKeeps s t
  control : ControlBounded s.line → ControlBounded t.line

namespace FilmFrame

variable {s t u : State}

theorem refl (s : State) : FilmFrame s s := ⟨⟨rfl, rfl, rfl, rfl, rfl, rfl, rfl, rfl, rfl, rfl⟩, id⟩

theorem trans (h : FilmFrame s t) (k : FilmFrame t u) : FilmFrame s u := by
  obtain ⟨⟨h1, h2, h3, h4, h5, h6, h7, h8, h9, h10⟩, hc⟩ := h
  obtain ⟨⟨k1, k2, k3, k4, k5, k6, k7, k8, k9, k10⟩, kc⟩ := k
  refine ⟨⟨k1.trans h1, ?_, k3.trans h3, k4.trans h4, k5.trans h5, k6.trans h6, k7.trans h7, k8.trans h8, k9.trans h9,
    k10.trans h10⟩, kc ∘ hc⟩
  rw [k2, h2]

/-- A step that leaves the line port and these other parts alone. -/
theorem ofLine (hline : t.line = s.line) (hsignals : t.signals = s.signals) (htable : t.density.table = s.density.table)
    (hexpected : t.list.expected = s.list.expected) (hcomposer : t.composer = s.composer)
    (hflight : t.output.inFlight = s.output.inFlight) (hjam : t.output.jam = s.output.jam)
    (hheld : t.output.held = s.output.held) (hsettings : t.command.settings = s.command.settings)
    (hmask : t.command.mask = s.command.mask) : FilmFrame s t :=
  ⟨⟨hsignals, by rw [hline], htable, hexpected, hcomposer, hflight, hjam, hheld, hsettings, hmask⟩,
    by rw [hline]; exact id⟩

theorem noticeTest (cause : Option Event) (s : State) : FilmFrame s (noticeTest cause s) := by
  rcases noticeTest_cases cause s with ⟨hfalls, h⟩ | ⟨_, h⟩ <;> rw [h]
  · have hroom : controlRoom s.line = true := by
      simp only [noticeFalls, Bool.and_eq_true] at hfalls
      exact hfalls.2
    exact ⟨⟨rfl, rfl, rfl, rfl, rfl, rfl, rfl, rfl, rfl, rfl⟩, fun hb => hb.append_other hroom _⟩
  · exact refl s

theorem occur (e : Event) (s : State) : FilmFrame s (occur e s) := by
  have hlatch : FilmFrame s { s with command.latched := s.command.latched ||| eventBit e } :=
    ofLine rfl rfl rfl rfl rfl rfl rfl rfl rfl rfl
  rcases occur_cases e s with h | h <;> rw [h]
  · exact hlatch
  · exact hlatch.trans (noticeTest _ _)

theorem advance (k : Counter) (s : State) : FilmFrame s (advance k s) :=
  ofLine rfl rfl rfl rfl rfl rfl rfl rfl rfl rfl

theorem requestHalt (k : HaltReason) (b : Bool) (s : State) : FilmFrame s (requestHalt k b s) := by
  rcases requestHalt_cases k b s with ⟨_, h⟩ | ⟨_, h⟩ <;> rw [h]
  · exact refl s
  · exact ⟨⟨rfl, rfl, rfl, rfl, rfl, rfl, rfl, rfl, rfl, rfl⟩, fun hb => hb.placeHaltReport _⟩

theorem outputTest (s : State) : FilmFrame s (outputTest s) := by
  rcases outputTest_cases s with h | ⟨b, h⟩ <;> rw [h]
  · exact refl s
  · exact requestHalt .output b s

theorem emitSlot (slot : Slot) (s : State) : FilmFrame s (emitSlot slot s) := by
  refine trans ?_ (outputTest _)
  exact ofLine rfl rfl rfl rfl rfl rfl rfl rfl rfl rfl

theorem takeSample (x : Sample) (s : State) : FilmFrame s (takeSample x s) := by
  unfold Machine.takeSample
  split_ifs
  · exact ofLine rfl rfl rfl rfl rfl rfl rfl rfl rfl rfl
  · refine trans ?_ (occur .sampleOverflow _)
    exact ofLine rfl rfl rfl rfl rfl rfl rfl rfl rfl rfl
  · exact refl s

theorem ofFrameStep (h : FrameStep s t) : FilmFrame s t := by
  cases h with
  | occurs e => exact occur e s
  | supersedes => exact advance .superseded s
  | leaves x y rest =>
    refine trans ?_ (emitSlot y _)
    exact ofLine rfl rfl rfl rfl rfl rfl rfl rfl rfl rfl
  | rewrites | shuts | opensBound | opensUnbound | grows | joins =>
    exact ofLine rfl rfl rfl rfl rfl rfl rfl rfl rfl rfl

theorem ofFrameRun (h : FrameRun s t) : FilmFrame s t :=
  h.keeps (P := FilmFrame s) (fun _ _ hstep hs => hs.trans (ofFrameStep hstep)) (refl s)

theorem ofFilmStep (h : FilmStep s t) : FilmFrame s t := by
  cases h with
  | samples x => exact takeSample x s
  | occurs e => exact occur e s
  | counts k => exact advance k s
  | halts k b => exact requestHalt k b s
  | takes f htake => exact ofFrameRun (takeFrame_frameRun htake)
  | closes => exact ofFrameRun (closeAndRelease_frameRun s)
  | releases => exact ofFrameRun (release_frameRun s)
  | tracks | empties | times => exact ofLine rfl rfl rfl rfl rfl rfl rfl rfl rfl rfl

theorem ofFilmRun (h : FilmRun s t) : FilmFrame s t :=
  h.keeps (P := FilmFrame s) (fun _ _ hstep hs => hs.trans (ofFilmStep hstep)) (refl s)

theorem mode (h : FilmFrame s t) : t.line.mode = s.line.mode := by
  obtain ⟨_, hline, _⟩ := h.keeps
  rw [hline]

end FilmFrame

end Sys2Proof.Machine
end

section
/-! The tables, the settings and the accumulators (R29, R35, R42, R107, R112, R173): what a load may put there, and what
every move of the blocks keeps, with the obligation O55 assembled from it. -/

namespace Sys2Proof.Machine

open Sys2Proof.Safety

/-! The late binding at an append (R57, R60). -/

/-- An append binds exactly when an OPEN_UNBOUND drawing waits and the list is not empty (R57, R60). -/
theorem bindAppended_cases (s : State) :
    (∃ d e rest, s.matching.drawing = some d ∧ d.entry = none ∧ s.list.entries = e :: rest ∧
      bindAppended s = (true, bindLate d e (listLowTest { s with list.entries := rest }))) ∨
    (((∀ d ∈ s.matching.drawing, d.entry ≠ none) ∨ s.list.entries = []) ∧ bindAppended s = (false, s)) := by
  unfold bindAppended
  rcases hopen : s.matching.drawing with _ | d
  · exact .inr ⟨.inl (by simp), rfl⟩
  · rcases hlist : s.list.entries with _ | ⟨e, rest⟩
    · exact .inr ⟨.inr rfl, rfl⟩
    · rcases hentry : d.entry with _ | bound
      · exact .inl ⟨d, e, rest, rfl, hentry, rfl, by simp [hentry]⟩
      · exact .inr ⟨.inl (by simp [hentry]), by simp [hentry]⟩

theorem FilmFrame.bindAppended (s : State) : FilmFrame s (bindAppended s).2 := by
  rcases bindAppended_cases s with ⟨d, e, rest, -, -, -, h⟩ | ⟨-, h⟩ <;> rw [h]
  · have htaken : FilmFrame s { s with list.entries := rest } := ofLine rfl rfl rfl rfl rfl rfl rfl rfl rfl rfl
    refine (htaken.trans (ofFrameRun (listLowTest_frameRun _))).trans (trans ?_ (ofFrameRun (release_frameRun _)))
    exact ofLine rfl rfl rfl rfl rfl rfl rfl rfl rfl rfl
  · exact refl s

/-- What an accepted append does after its entries have joined is of the kind film traffic does (R57, R60, R73). -/
theorem FilmFrame.appended (first : Nat) (es : List RawEntry) (s : State) :
    FilmFrame (joinEntries first es s) (reportList (Machine.bindAppended (joinEntries first es s)).2) :=
  (FilmFrame.bindAppended _).trans (.requestHalt .list _ _)

/-! What the loads may put into the tables. -/

theorem words16_length (bs : List Byte) : (words16 bs).length = bs.length / 2 := by
  induction bs using words16.induct with
  | case1 hi lo rest ih => simp only [words16, List.length_cons, ih]; omega
  | case2 bs hshort =>
    rcases bs with _ | ⟨hi, _ | ⟨lo, rest⟩⟩
    · rfl
    · simp [words16]
    · exact absurd rfl (hshort hi lo rest)

theorem repairFrom_length (before : Nat) (vs : List Nat) : (repairFrom before vs).length = vs.length := by
  induction vs generalizing before with
  | nil => rfl
  | cons v vs ih => simp [repairFrom, ih]

theorem repairTable_length (vs : List Nat) : (repairTable vs).length = vs.length := by
  cases vs with
  | nil => rfl
  | cons v vs => simp [repairTable, repairFrom_length]

theorem repairFrom_le (before : Nat) (vs : List Nat) : ∀ v ∈ repairFrom before vs, v ≤ before := by
  induction vs generalizing before with
  | nil => simp [repairFrom]
  | cons v vs ih =>
    intro x hx
    rcases List.mem_cons.mp hx with rfl | hx
    · exact min_le_right v before
    · exact (ih _ x hx).trans (min_le_right v before)

theorem repairFrom_nonincreasing (before : Nat) (vs : List Nat) :
    (repairFrom before vs).Pairwise (fun a b => b ≤ a) := by
  induction vs generalizing before with
  | nil => simp [repairFrom]
  | cons v vs ih => exact .cons (repairFrom_le _ vs) (ih _)

theorem repairTable_nonincreasing (vs : List Nat) : (repairTable vs).Pairwise (fun a b => b ≤ a) := by
  cases vs with
  | nil => simp [repairTable]
  | cons v vs => exact .cons (repairFrom_le v vs) (repairFrom_nonincreasing v vs)

theorem repairTable_le {bound : Nat} {vs : List Nat} (h : ∀ v ∈ vs, v ≤ bound) : ∀ v ∈ repairTable vs, v ≤ bound := by
  cases vs with
  | nil => simp [repairTable]
  | cons v vs =>
    intro x hx
    have hv := h v List.mem_cons_self
    rcases List.mem_cons.mp hx with rfl | hx
    · exact hv
    · exact (repairFrom_le v vs x hx).trans hv

/-- What LOAD_DENSITY loads is a table (R35, R38). -/
theorem loadedTable_law {operand : List Byte} (hlen : operand.length = 130) :
    (repairTable (clampDensity (words16 operand))).length = 65 ∧
    (repairTable (clampDensity (words16 operand))).Pairwise (fun a b => b ≤ a) ∧
    ∀ v ∈ repairTable (clampDensity (words16 operand)), v ≤ 400 := by
  refine ⟨?_, repairTable_nonincreasing _, repairTable_le ?_⟩
  · simp [repairTable_length, clampDensity, words16_length, hlen]
  · simp [clampDensity]

/-- A value that is clamped lies in its range (R174). -/
theorem clamp_mem {range : Nat × Nat} (h : range.1 ≤ range.2) (v : Nat) :
    range.1 ≤ clamp range v ∧ clamp range v ≤ range.2 := by
  unfold clamp
  split_ifs <;> omega

/-- Each clamped value stands in the range of its place. -/
theorem zipWith_clamp_mem {ranges : List (Nat × Nat)} (hranges : ∀ r ∈ ranges, r.1 ≤ r.2) {vs : List Nat}
    (hlen : vs.length = ranges.length) :
    List.Forall₂ (fun r v => r.1 ≤ v ∧ v ≤ r.2) ranges (List.zipWith clamp ranges vs) := by
  induction ranges generalizing vs with
  | nil => simp
  | cons r ranges ih =>
    obtain ⟨v, vs, rfl⟩ := List.exists_cons_of_length_eq_add_one hlen
    exact .cons (clamp_mem (hranges r List.mem_cons_self) v)
      (ih (fun r hr => hranges r (List.mem_cons_of_mem _ hr)) (by simpa using hlen))

theorem settingsOf_eq_some {vs : List Nat} {w : Settings} (h : settingsOf vs = some w) :
    vs = [w.nMin, w.cBlank, w.cMin, w.dbLow, w.dbHigh, w.pitchMin, w.pitchMax, w.trackTol, vs.getD 8 0, vs.getD 9 0,
      vs.getD 10 0, w.flushTime, w.doneTime, w.creditLimit, w.burstLimit, w.stopLevel, w.goLevel, w.listLow] := by
  unfold settingsOf at h
  split at h
  · cases h
    rfl
  · cases h

/-- None of the four conditions holds (R174). -/
theorem inconsistency_eq_zero {v : Settings} (h : inconsistency v = 0) :
    v.pitchMin < v.pitchMax ∧ v.cBlank ≤ v.cMin ∧ v.dbLow ≤ v.dbHigh ∧ v.goLevel < v.stopLevel := by
  unfold inconsistency at h
  split_ifs at h
  omega

/-- The settings that LOAD_SETTINGS puts in force are lawful (R173, R174). -/
theorem loadedSettings_law {operand : List Byte} {v : Settings} (hlen : operand.length = 36)
    (hsettings : settingsOf (clampSettings (words16 operand)) = some v) (hgood : inconsistency v = 0) (s : State) :
    settingsLaw { s with command.settings := v } := by
  have hranges : List.Forall₂ (fun r v => r.1 ≤ v ∧ v ≤ r.2) settingRanges (clampSettings (words16 operand)) :=
    zipWith_clamp_mem (by decide) (by simp [words16_length, hlen, settingRanges])
  rw [settingsOf_eq_some hsettings] at hranges
  have hcons := inconsistency_eq_zero hgood
  simp only [settingRanges, List.forall₂_cons, List.Forall₂.nil, and_true] at hranges
  dsimp only [settingsLaw]
  omega

theorem fitPlacement_law {p : RawPlacement} {q : Placement} (h : fitPlacement p = some q) : placementLaw q := by
  unfold fitPlacement at h
  split at h
  · split_ifs at h with hrange
    cases h
    dsimp only [placementLaw]
    omega
  · cases h

/-- The map has a placement for each one sent, and each stands on the card (R107, R108). -/
theorem fitPlacements_law {pos : Nat} {raw : List RawPlacement} {map : List Placement}
    (h : fitPlacements pos raw = .ok map) : map.length = raw.length ∧ ∀ q ∈ map, placementLaw q := by
  induction raw generalizing pos map with
  | nil =>
    cases h
    simp
  | cons p raw ih =>
    unfold fitPlacements at h
    split at h
    · cases h
    · rename_i q hq
      split at h
      · cases h
      · rename_i qs hqs
        cases h
        obtain ⟨hlen, hall⟩ := ih hqs
        exact ⟨by simp [hlen], List.forall_mem_cons.mpr ⟨fitPlacement_law hq, hall⟩⟩

/-! Which moves change a table or the settings. -/

/-- The table, the composer and the settings are as they were. -/
structure SameTables (s t : State) : Prop where
  table : t.density.table = s.density.table
  composer : t.composer = s.composer
  settings : t.command.settings = s.command.settings

theorem FilmFrame.sameTables {s t : State} (h : FilmFrame s t) : SameTables s t := by
  obtain ⟨⟨_, _, htable, _, hcomposer, _, _, _, hsettings, _⟩, _⟩ := h
  exact ⟨htable, hcomposer, hsettings⟩

theorem SameBlocks.sameTables {s t : State} (h : SameBlocks s t) : SameTables s t :=
  ⟨by rw [h.density], h.composer, h.settings⟩

/-- A move loads one of the tables, or puts all at their power-on values, or changes none of them. -/
inductive TableMove (s t : State) : Prop where
  | keeps : SameTables s t → TableMove s t
  | powers (pins : BitVec 4) : t = powerOnState pins s → TableMove s t
  | table (operand : List Byte) : operand.length = 130 →
      SameTables { s with density.table := repairTable (clampDensity (words16 operand)) } t → TableMove s t
  | settings (operand : List Byte) (v : Settings) : operand.length = 36 →
      settingsOf (clampSettings (words16 operand)) = some v → inconsistency v = 0 →
      SameTables { s with command.settings := v } t → TableMove s t
  | punch (operand : List Byte) : operand.length = 128 →
      SameTables { s with composer.punch := readPatterns operand } t → TableMove s t
  | fields (raw : List RawPlacement) (map : List Placement) : raw.length ≤ 8 → fitPlacements 1 raw = .ok map →
      SameTables { s with composer.fieldMap := map } t → TableMove s t

section
variable {s t : State}

theorem Acts.tableMove (h : Acts s t) : TableMove s t := by
  cases h with
  | table operand hlen => exact .table operand hlen ⟨rfl, rfl, rfl⟩
  | tableRepaired operand hlen => exact .table operand hlen (FilmFrame.occur _ _).sameTables
  | settings operand v hlen _ hv hgood => exact .settings operand v hlen hv hgood ⟨rfl, rfl, rfl⟩
  | punch operand hlen => exact .punch operand hlen ⟨rfl, rfl, rfl⟩
  | fields raw map hlen hmap => exact .fields raw map hlen hmap ⟨rfl, rfl, rfl⟩
  | appends operand first es =>
    obtain ⟨htable, hcomposer, hsettings⟩ := (FilmFrame.appended first es s).sameTables
    exact .keeps ⟨htable, hcomposer, hsettings⟩
  | flushes => exact .keeps (FilmFrame.ofFilmRun (flushCommand_run s)).sameTables
  | reissues i => exact .keeps (by unfold reissue endHold; constructor <;> simp)
  | drops i => exact .keeps (by unfold dropJammed endHold; constructor <;> simp)
  | masks set => exact .keeps (by constructor <;> simp)
  | arms => exact .keeps (by constructor <;> simp)
  | nothing | joins | converts | passes | clearsList | clearsCounters | clearsEvents =>
    exact .keeps ⟨rfl, rfl, rfl⟩

theorem BlockMove.tableMove (h : BlockMove s t) : TableMove s t := by
  cases h with
  | same hsame => exact .keeps hsame.sameTables
  | powers pins => exact .powers pins rfl
  | acts hacts => exact hacts.tableMove
  | films _ hfilm => exact .keeps (FilmFrame.ofFilmRun hfilm.run).sameTables
  | flushExpires => exact .keeps (FilmFrame.ofFilmRun (expireFlush_run s)).sameTables
  | jams i => exact .keeps (by constructor <;> simp)
  | sends i rest => exact .keeps (by unfold takeInstruction; constructor <;> simp)
  | resets | reports | countsDown => exact .keeps ⟨rfl, rfl, rfl⟩

theorem BlockMove.keeps_tableLaw (h : BlockMove s t) (hs : tableLaw s) : tableLaw t := by
  rcases h.tableMove with hsame | ⟨pins, rfl⟩ | ⟨operand, hlen, hsame⟩ | ⟨_, _, _, _, _, hsame⟩ | ⟨_, _, hsame⟩ |
    ⟨_, _, _, _, hsame⟩
  case powers => exact (show tableLaw State.reset by decide +kernel)
  case table =>
    unfold tableLaw
    rw [hsame.table]
    exact loadedTable_law hlen
  all_goals
    unfold tableLaw
    rw [hsame.table]
    exact hs

theorem BlockMove.keeps_settingsLaw (h : BlockMove s t) (hs : settingsLaw s) : settingsLaw t := by
  rcases h.tableMove with hsame | ⟨pins, rfl⟩ | ⟨_, _, hsame⟩ | ⟨operand, v, hlen, hv, hgood, hsame⟩ | ⟨_, _, hsame⟩ |
    ⟨_, _, _, _, hsame⟩
  case powers => exact (show settingsLaw State.reset by decide +kernel)
  case settings =>
    unfold settingsLaw
    rw [hsame.settings]
    exact loadedSettings_law hlen hv hgood s
  all_goals
    unfold settingsLaw
    rw [hsame.settings]
    exact hs

theorem BlockMove.keeps_composerLaw (h : BlockMove s t) (hs : composerLaw s) : composerLaw t := by
  rcases h.tableMove with hsame | ⟨pins, rfl⟩ | ⟨_, _, hsame⟩ | ⟨_, _, _, _, _, hsame⟩ | ⟨operand, hlen, hsame⟩ |
    ⟨raw, map, hlen, hmap, hsame⟩
  case powers => exact (show composerLaw State.reset by decide +kernel)
  all_goals
    unfold composerLaw
    rw [hsame.composer]
    obtain ⟨hfew, hplaced, hpunch⟩ := hs
  case punch => exact ⟨hfew, hplaced, by simp [readPatterns, words16_length, hlen]⟩
  case fields =>
    obtain ⟨hmaplen, hall⟩ := fitPlacements_law hmap
    exact ⟨hmaplen.trans_le hlen, hall, hpunch⟩
  all_goals exact ⟨hfew, hplaced, hpunch⟩

end

/-! The accumulators (R29, R42). -/

section
variable {s t : State}

theorem accumulatorLaw_empty : accumulatorLaw emptyAccumulators := by decide

/-- A density within the table keeps the accumulators within their bounds (R42). -/
theorem accumulatorLaw_accumulate {a : Accumulators} {d : Nat} (h : accumulatorLaw a) (hcap : a.n < 8192) (hd : d ≤ 400) :
    accumulatorLaw (accumulate d a) := by
  rw [accumulate_eq]
  rcases Nat.eq_zero_or_pos a.n with hzero | hpos
  · obtain ⟨-, hmin, hmax, hsum, -⟩ := h
    simp [accumulatorLaw, hmin.mp hzero, hmax.mp hzero, hsum hzero, hzero, hd]
  · obtain ⟨lo, hi, hmin, hmax, hlo, hhi, hle⟩ := accumulatorLaw_extremes h hpos
    have hlow : (a.n + 1) * min lo d ≤ a.sum + d := by
      rw [Nat.add_mul, Nat.one_mul]
      exact Nat.add_le_add ((Nat.mul_le_mul_left _ (min_le_left lo d)).trans hlo) (min_le_right lo d)
    have hhigh : a.sum + d ≤ (a.n + 1) * max hi d := by
      rw [Nat.add_mul, Nat.one_mul]
      exact Nat.add_le_add (hhi.trans (Nat.mul_le_mul_left _ (le_max_left hi d))) (le_max_right hi d)
    simp only [accumulatorLaw, hmin, hmax, Option.getD_some]
    refine ⟨by omega, by simp, by simp, by simp, by simpa using hlow, ?_⟩
    simpa [hle, hd] using hhigh

theorem takeSample_keeps_accumulatorLaw (x : Sample) (htable : tableLaw s) (h : accumulatorLaw s.density.acc) :
    accumulatorLaw (takeSample x s).density.acc := by
  unfold takeSample
  split_ifs with _ hcap
  · obtain ⟨_, _, hmax⟩ := htable
    exact accumulatorLaw_accumulate h hcap ((sampleDensity_le_point _ _).trans (getD_le_of_forall_le hmax _))
  · simpa using h
  · exact h

theorem FilmStep.keeps_accumulatorLaw (h : FilmStep s t) (htable : tableLaw s) (hs : accumulatorLaw s.density.acc) :
    accumulatorLaw t.density.acc := by
  cases h with
  | empties last => exact accumulatorLaw_empty
  | samples x => exact takeSample_keeps_accumulatorLaw x htable hs
  | takes f htake => rwa [takeFrame_density f s t htake]
  | halts k b | occurs e => simpa using hs
  | closes => simpa using hs
  | releases => simpa using hs
  | tracks | times | counts => exact hs

theorem FilmRun.keeps_accumulatorLaw (h : FilmRun s t) (htable : tableLaw s) (hs : accumulatorLaw s.density.acc) :
    accumulatorLaw t.density.acc :=
  (h.keeps (P := fun u => tableLaw u ∧ accumulatorLaw u.density.acc)
    (fun u v hstep ⟨hutable, hu⟩ =>
      ⟨by unfold tableLaw; rw [(FilmFrame.ofFilmStep hstep).sameTables.table]; exact hutable,
        hstep.keeps_accumulatorLaw hutable hu⟩) ⟨htable, hs⟩).2

theorem bindAppended_density (s : State) : (bindAppended s).2.density = s.density := by
  rcases bindAppended_cases s with ⟨d, e, rest, -, -, -, h⟩ | ⟨-, h⟩ <;> rw [h]
  simp [bindLate]

theorem Acts.keeps_accumulatorLaw (h : Acts s t) (htable : tableLaw s) (hs : accumulatorLaw s.density.acc) :
    accumulatorLaw t.density.acc := by
  cases h with
  | tableRepaired operand => simpa using hs
  | appends operand first es => simpa [bindAppended_density, joinEntries] using hs
  | flushes => exact (flushCommand_run s).keeps_accumulatorLaw htable hs
  | reissues i => simpa [reissue, endHold] using hs
  | drops i => simpa [dropJammed, endHold] using hs
  | masks set => simpa using hs
  | arms => simpa using hs
  | nothing | joins | converts | passes | table | settings | punch | fields | clearsList | clearsCounters | clearsEvents =>
    exact hs

theorem BlockMove.keeps_accumulatorLaw (h : BlockMove s t) (htable : tableLaw s) (hs : accumulatorLaw s.density.acc) :
    accumulatorLaw t.density.acc := by
  cases h with
  | same hsame => rwa [hsame.density]
  | powers pins => exact accumulatorLaw_empty
  | acts hacts => exact hacts.keeps_accumulatorLaw htable hs
  | resets mode => exact accumulatorLaw_empty
  | films _ hfilm => exact hfilm.run.keeps_accumulatorLaw htable hs
  | flushExpires => exact (expireFlush_run s).keeps_accumulatorLaw htable hs
  | jams i => simpa using hs
  | sends i rest => simpa [takeInstruction] using hs
  | reports | countsDown => exact hs

end

end Sys2Proof.Machine

namespace Sys2Proof.Proofs

open Sys2Proof.Machine

/-- Settles O55: each law is kept by every move of the blocks, since only the loads write a table or the settings, and only a
counted sample of a lawful table writes the accumulators. -/
theorem stepKeepsTables : Obligations.StepKeepsTables := by
  intro s t h
  refine ⟨step_keeps_of_moves (fun _ _ hmove => hmove.keeps_tableLaw) h,
    step_keeps_of_moves (fun _ _ hmove => hmove.keeps_settingsLaw) h,
    step_keeps_of_moves (fun _ _ hmove => hmove.keeps_composerLaw) h, fun htable hacc => ?_⟩
  exact (step_keeps_of_moves (P := fun u => Safety.tableLaw u ∧ Safety.accumulatorLaw u.density.acc)
    (fun _ _ hmove hu => ⟨hmove.keeps_tableLaw hu.1, hmove.keeps_accumulatorLaw hu.1 hu.2⟩) h ⟨htable, hacc⟩).2

end Sys2Proof.Proofs
end

section
/-! The line port (R141, R147 to R151, R159 to R165): every command as moves of the line port, and what every such move
keeps, with the obligation O56 assembled from it. -/

namespace Sys2Proof.Machine

open Sys2Proof.Safety

/-! Moves that the line port makes. -/

/-- The signals and the line port are as they were but for the control queue, which keeps its bounds. -/
structure OnlyControl (s t : State) : Prop where
  signals : t.signals = s.signals
  line : t.line = { s.line with control := t.line.control }
  control : ControlBounded s.line → ControlBounded t.line

namespace OnlyControl

variable {s t u : State}

theorem trans (h : OnlyControl s t) (k : OnlyControl t u) : OnlyControl s u :=
  ⟨k.signals.trans h.signals, by rw [k.line, h.line], k.control ∘ h.control⟩

theorem ofSame (hsignals : t.signals = s.signals) (hline : t.line = s.line) : OnlyControl s t :=
  ⟨hsignals, by rw [hline], by rw [hline]; exact id⟩

theorem ofFilmFrame (h : FilmFrame s t) : OnlyControl s t := ⟨h.keeps.1, h.keeps.2.1, h.control⟩

theorem occur (e : Event) (s : State) : OnlyControl s (occur e s) := ofFilmFrame (.occur e s)

theorem advance (k : Counter) (s : State) : OnlyControl s (advance k s) := ofSame rfl rfl

theorem requestHalt (k : HaltReason) (b : Bool) (s : State) : OnlyControl s (requestHalt k b s) :=
  ofFilmFrame (.requestHalt k b s)

theorem release (s : State) : OnlyControl s (release s) := ofFilmFrame (.ofFrameRun (release_frameRun s))

theorem outputTest (s : State) : OnlyControl s (outputTest s) := ofFilmFrame (.outputTest s)

theorem replyReserved (h : OnlyControl s t) : t.line.replyReserved = s.line.replyReserved := by rw [h.line]

end OnlyControl

/-- What one operation can do to the signals and the line port. -/
inductive LineMove (s t : State) : Prop where
  | controls : OnlyControl s t → LineMove s t
  | powers (pins : BitVec 4) : t = powerOnState pins s → LineMove s t
  | nrstFalls : t = nrstFalls s → LineMove s t
  | pins (v : BitVec 4) : t.signals = { s.signals with strapPins := v } → t.line = s.line → LineMove s t
  | enters (mode : StationMode) : mode ≠ .bypass → t.signals = s.signals → t.line = { s.line with mode := mode } →
      LineMove s t
  | leaves : s.signals.nrstLow = false → t.signals = s.signals →
      t.line = { s.line with position := none, mode := .bypass, path := .stored } → LineMove s t
  | positions (p : Option Nat) : s.line.mode ≠ .bypass → (∀ n ∈ p, 1 ≤ n ∧ n ≤ 62) → t.signals = s.signals →
      t.line = { s.line with position := p } → LineMove s t
  | runs (a : Alignment) (good bad : Nat) : (runLaw s → runLaw t) → t.signals = s.signals →
      t.line = { s.line with alignment := a, goodRun := good, badRun := bad } → LineMove s t
  | forwards (r : Record) : forwardUsed s.line + recordLength r ≤ 4096 → t.signals = s.signals →
      t.line = { s.line with forward := s.line.forward ++ [r] } → LineMove s t
  | frees (n : Nat) : t.signals = s.signals → t.line = { s.line with sending := none, forward := s.line.forward.drop n } →
      LineMove s t
  | reserves : controlRoom s.line = true → t.signals = s.signals →
      t.line = { s.line with replyReserved := true } → LineMove s t
  | replies (r : Record) : s.line.replyReserved = true → t.signals = s.signals →
      t.line = { s.line with
        control := s.line.control ++ [{ halt := false, record := r }], replyReserved := false } → LineMove s t
  | queues (r : Record) : controlRoom s.line = true → t.signals = s.signals →
      t.line = { s.line with control := s.line.control ++ [{ halt := false, record := r }] } → LineMove s t
  | paths (path : LinePath) : (path = .stored → s.signals.nrstLow = false) → t.signals = s.signals →
      t.line = { s.line with path := path } → LineMove s t
  | sends (x : Sending) (n burst : Nat) : s.line.path = .stored → t.signals = s.signals →
      t.line = { s.line with sending := some x, control := s.line.control.drop n, burst := burst } → LineMove s t

/-- Such moves one after another. -/
abbrev LineMoves : State → State → Prop := Relation.ReflTransGen LineMove

section
variable {s t : State}

theorem LineMove.moves (h : LineMove s t) : LineMoves s t := .single h

theorem OnlyControl.moves (h : OnlyControl s t) : LineMoves s t := (LineMove.controls h).moves

theorem OnlyControl.appended (first : Nat) (es : List RawEntry) (s : State) :
    OnlyControl s (reportList (bindAppended (joinEntries first es s)).2) :=
  OnlyControl.trans (OnlyControl.ofSame (t := joinEntries first es s) rfl rfl) (.ofFilmFrame (.appended first es s))

/-- A command changes the mode or, of the line port, no more than the control queue, before its REPLY. -/
theorem Acts.lineMove (h : Acts s t) : LineMove s t ∧ t.line.replyReserved = s.line.replyReserved := by
  have ofControl {u : State} (h : OnlyControl s u) : LineMove s u ∧ u.line.replyReserved = s.line.replyReserved :=
    ⟨.controls h, h.replyReserved⟩
  cases h with
  | joins => exact ⟨.enters .pass (by decide) rfl rfl, rfl⟩
  | converts => exact ⟨.enters .convert (by decide) rfl rfl, rfl⟩
  | passes => exact ⟨.enters .pass (by decide) rfl rfl, rfl⟩
  | tableRepaired operand =>
    exact ofControl (.trans (OnlyControl.ofSame (by rfl) (by rfl)) (.occur .tableRepaired _))
  | appends operand first es => exact ofControl (.appended first es s)
  | flushes => exact ofControl (.ofFilmFrame (.ofFilmRun (flushCommand_run s)))
  | reissues i =>
    refine ofControl (.trans (.trans (.trans ?_ (.requestHalt .jam false _)) (.outputTest _)) (.release _))
    exact .ofSame rfl rfl
  | drops i =>
    refine ofControl (.trans (.advance .jamLost s) (.trans ?_ (.requestHalt .jam false _)))
    exact .ofSame rfl rfl
  | masks set => exact ofControl (.trans (OnlyControl.ofSame (by rfl) (by rfl)) (.ofFilmFrame (.noticeTest none _)))
  | arms => exact ofControl (.trans (OnlyControl.ofSame (by rfl) (by rfl)) (.ofFilmFrame (.noticeTest none _)))
  | nothing | table | settings | punch | fields | clearsList | clearsCounters | clearsEvents =>
    exact ofControl (.ofSame rfl rfl)

/-- The REPLY takes the reserved place (R163, R170). -/
theorem reply_lineMove (src code : Byte) (status : Status) (data : List Byte) (hplace : s.line.replyReserved = true) :
    LineMove s (reply src code status data s) := .replies (replyRecord src code status data s) hplace rfl rfl

theorem reservePlace_lineMove (hroom : controlRoom s.line = true) : LineMove s (reservePlace s) :=
  .reserves hroom rfl rfl

theorem queueControl_lineMove (r : Record) (hroom : controlRoom s.line = true) : LineMove s (queueControl r s) :=
  .queues r hroom rfl rfl

theorem Executes.lineMoves (h : Executes s t) (hnrst : s.signals.nrstLow = false) (hplace : s.line.replyReserved = true) :
    LineMoves s t ∧ t.line.replyReserved = false := by
  cases h with
  | answers src code status data hacts =>
    obtain ⟨hmove, hkept⟩ := hacts.lineMove
    exact ⟨hmove.moves.trans (reply_lineMove src code status data (hkept.trans hplace)).moves, rfl⟩
  | resets src code status data =>
    refine ⟨(reply_lineMove src code status data hplace).moves.trans (LineMove.moves ?_), rfl⟩
    exact .enters .pass (by decide) rfl rfl
  | leaves src code status data =>
    refine ⟨(reply_lineMove src code status data hplace).moves.trans (LineMove.moves ?_), rfl⟩
    exact .leaves hnrst rfl rfl

/-- No place stays kept that was not kept before (R163). -/
theorem Takes.lineMoves (h : Takes s t) (hnrst : s.signals.nrstLow = false) :
    LineMoves s t ∧ (s.line.replyReserved = false → t.line.replyReserved = false) := by
  cases h with
  | ignored => exact ⟨.refl, id⟩
  | dropped => exact ⟨(OnlyControl.advance .droppedCommands s).moves, id⟩
  | executed hroom hexec =>
    obtain ⟨hmoves, hfree⟩ := hexec.lineMoves hnrst rfl
    exact ⟨(reservePlace_lineMove hroom).moves.trans hmoves, fun _ => hfree⟩

theorem forwardRecord_lineMove (r : Record) (s : State) : LineMove s (forwardRecord r s) := by
  rcases forwardRecord_cases r s with ⟨hfits, h⟩ | ⟨-, h⟩ <;> rw [h]
  · exact .forwards r hfits rfl rfl
  · exact .controls (.trans (.advance .forwardOverflows s) (.occur .fwdOverflow _))

/-- The ROLL passed on takes a place that was kept for it (R158, R163). -/
theorem takeRoll_lineMoves (r : Record) (n : Nat) (hmode : s.line.mode ≠ .bypass) :
    LineMoves s (takeRoll r n s) ∧ (s.line.replyReserved = false → (takeRoll r n s).line.replyReserved = false) := by
  unfold takeRoll
  split_ifs with hroom hrange
  · refine ⟨?_, id⟩
    have hposition : LineMove s { s with line.position := some n } :=
      .positions (some n) hmode (by simpa using hrange) rfl rfl
    refine hposition.moves.trans (queueControl_lineMove _ ?_).moves
    exact hroom
  · refine ⟨?_, fun _ => rfl⟩
    have hposition : LineMove s { s with line.position := none } := .positions none hmode (by simp) rfl rfl
    refine hposition.moves.trans (Relation.ReflTransGen.trans (reservePlace_lineMove ?_).moves
      ((OnlyControl.occur .positionNone _).moves.trans (LineMove.moves ?_)))
    · exact hroom
    · exact .replies (rollOn r n) (by simp) rfl rfl
  · exact ⟨(OnlyControl.advance .droppedCommands s).moves, id⟩

theorem OnlyControl.lineMoves (h : OnlyControl s t) :
    LineMoves s t ∧ (s.line.replyReserved = false → t.line.replyReserved = false) :=
  ⟨h.moves, fun hplace => h.replyReserved.trans hplace⟩

theorem writeOffEach_onlyControl (es : List InFlight) (s : State) : OnlyControl s (writeOffEach es s) := by
  induction es generalizing s with
  | nil => exact .ofSame rfl rfl
  | cons e es ih => exact .trans (.trans (.advance .unconfirmed s) (.occur .doneTimeout _)) (ih _)

theorem strayDone_onlyControl (s : State) : OnlyControl s (strayDone s) :=
  .trans (.advance .strays s) (.occur .strayDone _)

theorem takeJam_onlyControl (i : Instruction) (s : State) : OnlyControl s (takeJam i s) := by
  unfold takeJam
  split
  · refine .trans (.trans ?_ (.requestHalt .jam true _)) (.occur .jam _)
    exact .ofSame rfl rfl
  · exact .trans (.advance .jamLost s) (.occur .jam _)

theorem takeDone_onlyControl (seq : Nat) (jammed : Bool) (s : State) : OnlyControl s (takeDone seq jammed s) := by
  unfold takeDone
  split
  · exact strayDone_onlyControl s
  · rename_i e newer _
    dsimp only
    have hmatched : OnlyControl s (writeOffEach (s.output.inFlight.takeWhile fun e => !hasSeq seq e)
        { s with output.inFlight := newer }) := by
      refine .trans ?_ (writeOffEach_onlyControl _ _)
      exact .ofSame rfl rfl
    split_ifs
    · exact hmatched.trans (takeJam_onlyControl _ _)
    · exact hmatched

theorem expireDeadline_onlyControl (seq : Nat) (s : State) : OnlyControl s (expireDeadline seq s) := by
  unfold expireDeadline
  split_ifs
  · refine .trans ?_ (.trans (.advance .unconfirmed _) (.occur .doneTimeout _))
    exact .ofSame rfl rfl
  · exact .ofSame rfl rfl

theorem Sorts.lineMoves (h : Sorts s t) (hnrst : s.signals.nrstLow = false) :
    LineMoves s t ∧ (s.line.replyReserved = false → t.line.replyReserved = false) := by
  cases h with
  | discards => exact ⟨.refl, id⟩
  | forwards r => exact ⟨(forwardRecord_lineMove r s).moves, by simp⟩
  | rolls r n hmode => exact takeRoll_lineMoves r n hmode
  | takes htakes => exact htakes.lineMoves hnrst
  | takesOn r htakes =>
    obtain ⟨hmoves, hfree⟩ := htakes.lineMoves hnrst
    exact ⟨hmoves.trans (forwardRecord_lineMove r _).moves, by simpa using hfree⟩
  | reports seq jammed => exact (takeDone_onlyControl seq jammed s).lineMoves
  | strays => exact (strayDone_onlyControl s).lineMoves
  | films _ hfilm => exact (OnlyControl.ofFilmFrame (.ofFilmRun hfilm.run)).lineMoves

theorem huntGood_lineMove (hhunt : s.line.alignment = .hunt) : LineMove s (huntGood s) := by
  unfold huntGood
  split_ifs with hthird
  · exact .runs .locked 0 0 (fun _ => by simp [runLaw]) rfl rfl
  · refine .runs s.line.alignment (s.line.goodRun + 1) s.line.badRun (fun hs => ?_) rfl rfl
    obtain ⟨-, hbad, -, hzero⟩ := hs
    exact ⟨Nat.lt_of_not_le hthird, hbad, by simp [hhunt], hzero⟩

theorem lockedBad_lineMoves (hlocked : s.line.alignment = .locked) : LineMoves s (lockedBad s) := by
  have hcounted : OnlyControl s (occur .checkFail (advance .checkFails s)) :=
    .trans (.advance .checkFails s) (.occur .checkFail _)
  unfold lockedBad
  dsimp only
  split_ifs with heighth
  · refine hcounted.moves.trans (Relation.ReflTransGen.trans (LineMove.moves ?_) (OnlyControl.occur .linkSlip _).moves)
    exact .runs .hunt 0 0 (fun _ => by simp [runLaw]) rfl rfl
  · refine hcounted.moves.trans (LineMove.moves ?_)
    refine .runs .locked s.line.goodRun (s.line.badRun + 1) (fun hs => ?_) rfl (by simp [hlocked])
    simp only [runLaw, occur_line_goodRun, advance_line, occur_line_badRun, occur_line_alignment] at hs
    obtain ⟨hgood, -, hnone, -⟩ := hs
    refine ⟨by simpa using hgood, Nat.lt_of_not_le heighth, by simpa using hnone, by simp [hlocked]⟩

theorem sorted_lineMove (s : State) : LineMove s (sorted s) := by
  refine .runs s.line.alignment s.line.goodRun 0 (fun hs => ?_) rfl rfl
  obtain ⟨hgood, -, hnone, -⟩ := hs
  exact ⟨hgood, Nat.succ_pos 7, hnone, fun _ => rfl⟩

theorem finishSending_lineMoves (s : State) : LineMoves s (finishSending s) := by
  unfold finishSending
  split
  · exact .refl
  · split
    · refine LineMove.moves ?_
      exact .frees 1 rfl rfl
    · refine LineMove.moves ?_
      exact .frees 0 rfl rfl

/-- Every command's effect is made of moves of the line port, and no place stays kept (R163). -/
theorem Effect.lineMoves (h : Effect s t) :
    LineMoves s t ∧ (s.line.replyReserved = false → t.line.replyReserved = false) := by
  cases h with
  | nothing => exact ⟨.refl, id⟩
  | powers pins => exact ⟨(LineMove.powers pins rfl).moves, fun _ => rfl⟩
  | nrstFalls => exact ⟨(LineMove.nrstFalls rfl).moves, id⟩
  | straps v =>
    unfold strapMoves
    split_ifs
    · exact ⟨.refl, id⟩
    · refine ⟨Relation.ReflTransGen.trans (LineMove.moves ?_) (OnlyControl.occur .strapChanged _).moves, by simp⟩
      exact .pins v rfl rfl
  | hunts _ hhunt =>
    refine ⟨(huntGood_lineMove hhunt).moves, ?_⟩
    unfold huntGood
    split_ifs <;> exact id
  | huntsBad _ hhunt =>
    refine ⟨LineMove.moves ?_, id⟩
    refine .runs s.line.alignment 0 s.line.badRun (fun hs => ?_) rfl rfl
    obtain ⟨-, hbad, -, hzero⟩ := hs
    exact ⟨Nat.succ_pos 2, hbad, fun _ => rfl, hzero⟩
  | slips hlisten =>
    refine ⟨lockedBad_lineMoves hlisten.2, ?_⟩
    unfold lockedBad
    dsimp only
    split_ifs <;> simp
  | sorts hlisten hsorts =>
    obtain ⟨hmoves, hfree⟩ := hsorts.lineMoves hlisten.1
    exact ⟨(sorted_lineMove s).moves.trans hmoves, hfree⟩
  | flushExpires => exact (OnlyControl.ofFilmFrame (.ofFilmRun (expireFlush_run s))).lineMoves
  | deadlineExpires seq => exact (expireDeadline_onlyControl seq s).lineMoves
  | portFrees =>
    refine ⟨finishSending_lineMoves s, ?_⟩
    unfold finishSending
    split
    · exact id
    · split <;> exact id
  | pathStores =>
    unfold pathToStored
    split_ifs with hjoined
    · refine ⟨LineMove.moves ?_, id⟩
      exact .paths .stored (fun _ => hjoined.1) rfl rfl
    · exact ⟨.refl, id⟩
  | drainEnds =>
    unfold drainEnd
    split_ifs
    · refine ⟨LineMove.moves ?_, id⟩
      exact .paths .through (by simp) rfl rfl
    · exact ⟨.refl, id⟩

/-- The arbiter's choice starts to send on the STORED path (R164). -/
theorem choose_lineMoves (s : State) : LineMoves s (choose s) := by
  rcases choose_cases s with h | ⟨hpath, -, ⟨c, rest, hcontrol, h⟩ | ⟨i, rest, -, -, -, -, h⟩ | ⟨r, rest, -, -, -, h⟩⟩
  case inl => rw [h]
  all_goals rw [h]
  · refine LineMove.moves ?_
    exact .sends { forwarded := false, record := c.record } 1 s.line.burst hpath rfl (by simp [hcontrol, startSending])
  · rw [sendInstruction_eq]
    refine Relation.ReflTransGen.trans (LineMove.moves ?_)
      ((OnlyControl.outputTest _).trans (OnlyControl.release _)).moves
    exact .sends { forwarded := false, record := instructionRecord (originSource s.line) i } 0 _ hpath rfl rfl
  · refine LineMove.moves ?_
    exact .sends { forwarded := true, record := r } 0 0 hpath rfl rfl

/-! What every move keeps. -/

theorem LineMove.keeps_positionLaw (h : LineMove s t) (hs : positionLaw s) : positionLaw t := by
  obtain ⟨hbypass, hrange⟩ := hs
  cases h with
  | powers pins h => subst h; exact ⟨fun _ => rfl, by simp [powerOnState, State.powerOn, powerOnLine]⟩
  | nrstFalls h => subst h; exact ⟨hbypass, hrange⟩
  | controls h => unfold positionLaw; rw [h.line]; exact ⟨hbypass, hrange⟩
  | enters mode hmode _ hline => unfold positionLaw; rw [hline]; exact ⟨fun h => absurd h hmode, hrange⟩
  | leaves _ _ hline => unfold positionLaw; rw [hline]; exact ⟨fun _ => rfl, by simp⟩
  | positions p hmode hp _ hline => unfold positionLaw; rw [hline]; exact ⟨fun h => absurd h hmode, hp⟩
  | pins _ _ hline | runs _ _ _ _ _ hline | forwards _ _ _ hline | frees _ _ hline | reserves _ _ hline
  | replies _ _ _ hline | queues _ _ _ hline | paths _ _ _ hline | sends _ _ _ _ _ hline =>
    unfold positionLaw; rw [hline]; exact ⟨hbypass, hrange⟩

theorem LineMove.keeps_runLaw (h : LineMove s t) (hs : runLaw s) : runLaw t := by
  cases h with
  | powers pins h => subst h; exact ⟨Nat.succ_pos 2, Nat.succ_pos 7, fun _ => rfl, fun _ => rfl⟩
  | runs _ _ _ hkeeps => exact hkeeps hs
  | nrstFalls h => subst h; exact hs
  | controls h => unfold runLaw; rw [h.line]; exact hs
  | pins _ _ hline | enters _ _ _ hline | leaves _ _ hline | positions _ _ _ _ hline | forwards _ _ _ hline
  | frees _ _ hline | reserves _ _ hline | replies _ _ _ hline | queues _ _ _ hline | paths _ _ _ hline
  | sends _ _ _ _ _ hline =>
    unfold runLaw; rw [hline]; exact hs

theorem LineMove.keeps_signalLaw (h : LineMove s t) (hs : signalLaw s) : signalLaw t := by
  cases h with
  | powers pins h => subst h; exact fun hlow => nomatch hlow
  | nrstFalls h => subst h; exact fun _ => ⟨rfl, rfl⟩
  | controls h => unfold signalLaw; rw [h.line, h.signals]; exact hs
  | pins _ hsignals hline => unfold signalLaw; rw [hsignals, hline]; exact hs
  | leaves hhigh hsignals => unfold signalLaw; rw [hsignals, hhigh]; simp
  | frees _ hsignals hline =>
    unfold signalLaw; rw [hsignals, hline]; exact fun hlow => ⟨(hs hlow).1, rfl⟩
  | paths path hstored hsignals hline =>
    unfold signalLaw
    rw [hsignals, hline]
    refine fun hlow => ⟨?_, (hs hlow).2⟩
    cases path with
    | through => rfl
    | stored => rw [hstored rfl] at hlow; cases hlow
  | sends _ _ _ hpath hsignals =>
    unfold signalLaw
    rw [hsignals]
    intro hlow
    have hthrough := (hs hlow).1
    rw [hpath] at hthrough
    cases hthrough
  | enters _ _ hsignals hline | positions _ _ _ hsignals hline | runs _ _ _ _ hsignals hline
  | forwards _ _ hsignals hline | reserves _ hsignals hline | replies _ _ hsignals hline | queues _ _ hsignals hline =>
    unfold signalLaw; rw [hsignals, hline]; exact hs

theorem LineMove.keeps_forwardLaw (h : LineMove s t) (hs : forwardLaw s) : forwardLaw t := by
  cases h with
  | powers pins h => subst h; exact Nat.zero_le 4096
  | nrstFalls h => subst h; exact hs
  | controls h => unfold forwardLaw; rw [h.line]; exact hs
  | forwards r hfits _ hline =>
    have hlength : recordLength r = 7 + r.payload.length := by
      unfold recordLength
      omega
    rw [forwardUsed_eq, hlength] at hfits
    unfold forwardLaw
    rw [hline, List.map_append, List.sum_append]
    simpa using hfits
  | frees n _ hline =>
    unfold forwardLaw
    rw [hline]
    exact (((s.line.forward.drop_sublist n).map _).sum_le_sum (by simp)).trans hs
  | pins _ _ hline | enters _ _ _ hline | leaves _ _ hline | positions _ _ _ _ hline | runs _ _ _ _ _ hline
  | reserves _ _ hline | replies _ _ _ hline | queues _ _ _ hline | paths _ _ _ hline
  | sends _ _ _ _ _ hline =>
    unfold forwardLaw; rw [hline]; exact hs

theorem LineMove.keeps_controlBounded (h : LineMove s t) (hs : ControlBounded s.line) : ControlBounded t.line := by
  cases h with
  | powers pins h => subst h; exact ⟨Nat.zero_le 7, Nat.zero_le 1⟩
  | nrstFalls h => subst h; exact hs
  | controls h => exact h.control hs
  | reserves hroom _ hline =>
    have hlt := (controlRoom_iff _).mp hroom
    rw [hline]
    exact ⟨by simp only [if_true]; omega, hs.2⟩
  | replies r hplace _ hline =>
    obtain ⟨hother, hhalt⟩ := hs
    rw [hline]
    rw [hplace] at hother
    exact ⟨by simpa using hother, by simpa using hhalt⟩
  | queues r hroom _ hline => rw [hline]; exact hs.append_other hroom r
  | sends x n _ _ _ hline =>
    obtain ⟨hother, hhalt⟩ := hs
    rw [hline]
    have hfewer (p : ControlItem → Bool) : ((s.line.control.drop n).filter p).length ≤ (s.line.control.filter p).length :=
      ((s.line.control.drop_sublist n).filter p).length_le
    exact ⟨(Nat.add_le_add_right (hfewer _) _).trans hother, (hfewer _).trans hhalt⟩
  | pins _ _ hline | enters _ _ _ hline | leaves _ _ hline | positions _ _ _ _ hline | runs _ _ _ _ _ hline
  | forwards _ _ _ hline | frees _ _ hline | paths _ _ _ hline =>
    rw [hline]; exact hs

/-! The choice of the arbiter leaves none due (R164). -/

theorem settledLaw_of_sending (h : s.line.sending ≠ none) : settledLaw s := fun _ hfree => absurd hfree h

/-- Whatever waits, after a choice the port sends, or nothing that could be sent waits (R123, R164). -/
theorem settledLaw_choose (s : State) : settledLaw (choose s) := by
  rcases choose_cases s with h | ⟨-, -, ⟨c, rest, -, h⟩ | ⟨i, rest, -, -, -, -, h⟩ | ⟨r, rest, -, -, -, h⟩⟩
  case inl =>
    rw [h]
    intro hpath hfree
    rw [choose, if_pos ⟨hpath, hfree⟩] at h
    have hsent {u : State} (hu : u.line.sending ≠ none) (hus : u = s) : False := hu (hus ▸ hfree)
    rcases hcontrol : s.line.control with _ | ⟨c, rest⟩
    · rw [hcontrol] at h
      dsimp only [chooseFlow] at h
      rcases hforward : s.line.forward with _ | ⟨r, rs⟩ <;> rcases hqueue : s.output.queue with _ | ⟨i, q⟩ <;>
        rw [hforward, hqueue] at h <;> dsimp only at h
      · exact ⟨rfl, rfl, .inl rfl⟩
      · split_ifs at h with hmay
        · exact (hsent (by simp [sendInstruction_eq]) h).elim
        · refine ⟨rfl, rfl, .inr ?_⟩
          have hblocked := Bool.eq_false_iff.mpr hmay
          rw [maySend, Bool.and_eq_false_iff, decide_eq_false_iff_not, not_lt, Bool.not_eq_false'] at hblocked
          exact hblocked
      · exact (hsent (by simp [sendForwarded, startSending]) h).elim
      · split_ifs at h
        · exact (hsent (by simp [sendInstruction_eq]) h).elim
        · exact (hsent (by simp [sendForwarded, startSending]) h).elim
    · rw [hcontrol] at h
      exact (hsent (by simp [startSending]) h).elim
  all_goals
    rw [h]
    apply settledLaw_of_sending
  · simp [startSending]
  · simp [sendInstruction_eq]
  · simp [sendForwarded, startSending]

/-- A tenth of a second changes nothing that the arbiter looks at. -/
theorem tick_line (s : State) : (tick s).signals = s.signals ∧ (tick s).line = s.line := by
  unfold tick
  dsimp only
  split <;> exact ⟨rfl, rfl⟩

theorem tick_settles (h : settledLaw s) : settledLaw (tick s) := by
  have hflow : (tick s).output.queue = s.output.queue ∧ (tick s).output.inFlight.length = s.output.inFlight.length ∧
      (tick s).output.held = s.output.held ∧ (tick s).command.settings = s.command.settings := by
    unfold tick
    dsimp only
    split <;> exact ⟨rfl, List.length_map _, rfl, rfl⟩
  obtain ⟨hqueue, hflight, hheld, hsettings⟩ := hflow
  unfold settledLaw
  rw [(tick_line s).2, hqueue, hflight, hheld, hsettings]
  exact h

theorem LineMoves.keeps {P : State → Prop} (hmove : ∀ u v, LineMove u v → P u → P v) (h : LineMoves s t) (hs : P s) :
    P t := by
  induction h with
  | refl => exact hs
  | tail _ hlast ih => exact hmove _ _ hlast ih

theorem step_lineMoves (h : step s = .next t) :
    LineMoves s t ∧ (s.line.replyReserved = false → t.line.replyReserved = false) := by
  rcases step_cases h with rfl | ⟨rest, u, heffect, rfl⟩
  · obtain ⟨hsignals, hline⟩ := tick_line s
    exact (OnlyControl.ofSame hsignals hline).lineMoves
  · have hpopped : OnlyControl s { s with pending := rest } := .ofSame rfl rfl
    obtain ⟨hmoves, hfree⟩ := heffect.lineMoves
    exact ⟨hpopped.moves.trans (hmoves.trans (choose_lineMoves u)), by simpa using hfree⟩

/-- What every move of the line port keeps, every step keeps. -/
theorem step_keeps_of_lineMoves {P : State → Prop} (hmove : ∀ u v, LineMove u v → P u → P v) (h : step s = .next t)
    (hs : P s) : P t :=
  (step_lineMoves h).1.keeps hmove hs

theorem step_keeps_settledLaw (h : step s = .next t) (hs : settledLaw s) : settledLaw t := by
  rcases step_cases h with rfl | ⟨_, u, _, rfl⟩
  · exact tick_settles hs
  · exact settledLaw_choose u

theorem step_keeps_controlLaw (h : step s = .next t) (hs : controlLaw s) : controlLaw t := by
  obtain ⟨hother, hhalt, hplace⟩ := hs
  have hfree := (step_lineMoves h).2 hplace
  obtain ⟨hother', hhalt'⟩ := step_keeps_of_lineMoves (P := fun u => ControlBounded u.line)
    (fun _ _ hmove => hmove.keeps_controlBounded) h ⟨by simpa [hplace] using hother, hhalt⟩
  exact ⟨by simpa [hfree] using hother', hhalt', hfree⟩

end

end Sys2Proof.Machine

namespace Sys2Proof.Proofs

open Sys2Proof.Machine

/-- Settles O56: the laws of the line port are kept by each of its moves; that no choice is left due is what the choice at the
end of every command gives, whatever that command did. -/
theorem stepKeepsLinePort : Obligations.StepKeepsLinePort := by
  intro s t h
  exact ⟨step_keeps_of_lineMoves (fun _ _ hmove => hmove.keeps_positionLaw) h,
    step_keeps_of_lineMoves (fun _ _ hmove => hmove.keeps_runLaw) h,
    step_keeps_of_lineMoves (fun _ _ hmove => hmove.keeps_signalLaw) h,
    step_keeps_settledLaw h,
    step_keeps_of_lineMoves (fun _ _ hmove => hmove.keeps_forwardLaw) h,
    step_keeps_controlLaw h⟩

end Sys2Proof.Proofs
end

section
/-! The output controller (R27, R68, R73, R121 to R139, R179): what every move of the blocks keeps of the laws of the output
queue, the in-flight list and the halt reason set, with the obligation O57 assembled from it. -/

namespace Sys2Proof.Machine

open Sys2Proof.Safety

/-! Film traffic is made of steps of the matching engine, and of steps that leave alone what it works on. -/

/-- What the matching engine works on is as it was: the held slots, the drawing, the list, the output queue with its reason
OUTPUT, the settings, and the counters of the frame balance. -/
structure SameWork (s t : State) : Prop where
  hold : t.matching.hold = s.matching.hold
  drawing : t.matching.drawing = s.matching.drawing
  list : t.list = s.list
  queue : t.output.queue = s.output.queue
  haltOutput : t.output.halt.output = s.output.halt.output
  settings : t.command.settings = s.command.settings
  accepted : t.command.counters.framesAccepted = s.command.counters.framesAccepted
  cards : t.command.counters.cards = s.command.counters.cards
  wastes : t.command.counters.wastes = s.command.counters.wastes

section
variable {s t u : State}

theorem SameWork.ofBlocks (h : SameBlocks s t) : SameWork s t :=
  ⟨by rw [h.matching], by rw [h.matching], h.list, by rw [h.output], by rw [h.output], h.settings, h.accepted, h.cards,
    h.wastes⟩

/-- A request that is not for OUTPUT. -/
theorem SameWork.requestHalt {k : HaltReason} (hk : k ≠ .output) (b : Bool) (s : State) : SameWork s (requestHalt k b s) :=
  ⟨by simp, by simp, by simp, by simp, requestHalt_other k .output b s hk.symm, by simp, by simp, by simp, by simp⟩

theorem FilmStep.frames_or_same (h : FilmStep s t) : FrameRun s t ∨ SameWork s t := by
  cases h with
  | takes f htake => exact .inl (takeFrame_frameRun htake)
  | closes => exact .inl (closeAndRelease_frameRun s)
  | releases => exact .inl (release_frameRun s)
  | occurs e => exact .inr (.ofBlocks (.occur e s))
  | counts k hk => exact .inr (.ofBlocks (.advance hk s))
  | halts k b hk => exact .inr (.requestHalt (by rcases hk with rfl | rfl <;> decide) b s)
  | samples x =>
    unfold takeSample
    split_ifs
    · exact .inr ⟨rfl, rfl, rfl, rfl, rfl, rfl, rfl, rfl, rfl⟩
    · exact .inr (by constructor <;> simp)
    · exact .inr ⟨rfl, rfl, rfl, rfl, rfl, rfl, rfl, rfl, rfl⟩
  | tracks | empties | times => exact .inr ⟨rfl, rfl, rfl, rfl, rfl, rfl, rfl, rfl, rfl⟩

/-- What every step of the matching engine keeps of what it works on, film traffic keeps. -/
theorem FilmRun.keeps_work {P : State → Prop} (hframe : ∀ u v, FrameStep u v → P u → P v)
    (hsame : ∀ u v, SameWork u v → P u → P v) (h : FilmRun s t) (hs : P s) : P t :=
  h.keeps (fun u v hstep hu => hstep.frames_or_same.elim (fun hrun => hrun.keeps hframe hu) (fun hwork => hsame u v hwork hu)) hs

@[simp] theorem listLowTest_output (s : State) : (listLowTest s).output = s.output := by
  unfold listLowTest
  split_ifs <;> simp

@[simp] theorem listLowTest_matching (s : State) : (listLowTest s).matching = s.matching := by
  unfold listLowTest
  split_ifs <;> simp

@[simp] theorem listLowTest_list (s : State) : (listLowTest s).list = s.list := by
  unfold listLowTest
  split_ifs <;> simp

@[simp] theorem listLowTest_line_mode (s : State) : (listLowTest s).line.mode = s.line.mode := by
  unfold listLowTest
  split_ifs <;> simp

@[simp] theorem listLowTest_command_settings (s : State) : (listLowTest s).command.settings = s.command.settings := by
  unfold listLowTest
  split_ifs <;> simp

@[simp] theorem listLowTest_command_counters (s : State) : (listLowTest s).command.counters = s.command.counters := by
  unfold listLowTest
  split_ifs <;> simp

end

/-! Nothing held outside CONVERT (R68, R94, R121, R179). -/

/-- Nothing is held, queued, in flight or jammed, and the flush timer is stopped. -/
def Idle (s : State) : Prop :=
  s.matching.hold = [] ∧ s.output.queue = [] ∧ s.output.inFlight = [] ∧ s.output.jam = none ∧ s.matching.flushTimer = none

section
variable {s t : State}

theorem Idle.release (h : Idle s) : Idle (release s) := by rwa [release_of_nil h.1]

theorem closeDrawing_hold_of_nil (h : s.matching.hold = []) : (closeDrawing s).matching.hold = [] := by
  unfold closeDrawing closeBound closeUnbound
  split
  · exact h
  · dsimp only
    split
    · split_ifs <;> simp [h, modifyNewest]
    · simp [h]

@[simp] theorem closeDrawing_output (s : State) : (closeDrawing s).output = s.output := by
  unfold closeDrawing closeBound closeUnbound
  split
  · rfl
  · dsimp only
    split
    · split_ifs <;> simp
    · simp

@[simp] theorem closeDrawing_flushTimer (s : State) : (closeDrawing s).matching.flushTimer = s.matching.flushTimer := by
  unfold closeDrawing closeBound closeUnbound
  split
  · rfl
  · dsimp only
    split
    · split_ifs <;> simp
    · simp

theorem Idle.closeAndRelease (h : Idle s) : Idle (closeAndRelease s) := by
  unfold Machine.closeAndRelease
  split
  · exact h
  · obtain ⟨hhold, hqueue, hflight, hjam, htimer⟩ := h
    exact Idle.release ⟨closeDrawing_hold_of_nil hhold, by simpa, by simpa, by simpa, by simpa⟩

theorem Idle.reportList (h : Idle s) : Idle (reportList s) := by
  simpa [Idle, Machine.reportList] using h

theorem Idle.settleTimer (h : Idle s) : Idle (settleTimer s) := by
  unfold Machine.settleTimer
  split_ifs
  · exact h
  · obtain ⟨hhold, hqueue, hflight, hjam, -⟩ := h
    exact ⟨hhold, hqueue, hflight, hjam, rfl⟩

theorem Idle.bindAppended (h : Idle s) : Idle (bindAppended s).2 := by
  rcases bindAppended_cases s with ⟨d, e, rest, -, -, -, hbind⟩ | ⟨-, hbind⟩ <;> rw [hbind]
  · exact Idle.release (by simpa [Idle] using h)
  · exact h

/-- Outside CONVERT no command gives the blocks work, and the output holds nothing to resume. -/
theorem Acts.keeps_quietLaw (h : Acts s t) (hs : quietLaw s) : quietLaw t := by
  cases h with
  | joins hbypass => exact fun _ => hs (by rw [hbypass]; decide)
  | converts => exact fun hmode => absurd rfl hmode
  | passes hidle =>
    intro _
    simp only [holdsWork, Bool.or_eq_false_iff, Bool.not_eq_false', List.isEmpty_iff, Option.isSome_eq_false_iff,
      Option.isNone_iff_eq_none] at hidle
    obtain ⟨⟨⟨hhold, hqueue⟩, hflight⟩, hjam⟩ := hidle
    exact ⟨hhold, hqueue, hflight, hjam, rfl⟩
  | appends operand first es =>
    intro hmode
    rw [(FilmFrame.appended first es s).mode] at hmode
    have hidle : Idle (joinEntries first es s) := hs hmode
    exact hidle.bindAppended.reportList
  | flushes =>
    intro hmode
    rw [(FilmFrame.ofFilmRun (flushCommand_run s)).mode] at hmode
    exact Idle.reportList (Idle.settleTimer (Idle.closeAndRelease (hs hmode)))
  | reissues i _ hjam =>
    intro hmode
    have hnone := (hs (by simpa [reissue, endHold] using hmode)).2.2.2.1
    rw [hjam] at hnone
    cases hnone
  | drops i _ hjam =>
    intro hmode
    have hnone := (hs (by simpa [dropJammed, endHold] using hmode)).2.2.2.1
    rw [hjam] at hnone
    cases hnone
  | tableRepaired | masks | arms => simpa [quietLaw] using hs
  | nothing | table | settings | punch | fields | clearsList | clearsCounters | clearsEvents => exact hs

theorem BlockMove.keeps_quietLaw (h : BlockMove s t) (hs : quietLaw s) : quietLaw t := by
  cases h with
  | same hsame => unfold quietLaw; rw [hsame.mode, hsame.matching, hsame.output]; exact hs
  | powers pins => exact fun _ => ⟨rfl, rfl, rfl, rfl, rfl⟩
  | acts hacts => exact hacts.keeps_quietLaw hs
  | resets mode => exact fun _ => ⟨rfl, rfl, rfl, rfl, rfl⟩
  | films hmode hfilm =>
    intro hout
    exact absurd ((FilmFrame.ofFilmRun hfilm.run).mode.trans hmode) hout
  | flushExpires =>
    intro hmode
    rw [(FilmFrame.ofFilmRun (expireFlush_run s)).mode] at hmode
    obtain ⟨-, -, -, -, htimer⟩ := hs hmode
    rw [show expireFlush s = s by simp [expireFlush, htimer]]
    exact hs hmode
  | reports es hfewer =>
    intro hmode
    obtain ⟨hhold, hqueue, hflight, hjam, htimer⟩ := hs hmode
    exact ⟨hhold, hqueue, List.length_eq_zero_iff.mp (by simpa [hflight] using hfewer), hjam, htimer⟩
  | jams i hmode => exact fun hout => absurd (by simpa using hmode) hout
  | sends i rest hqueue =>
    intro hmode
    obtain ⟨-, hnone, -⟩ := hs (by simpa [takeInstruction] using hmode)
    rw [hqueue] at hnone
    cases hnone
  | countsDown =>
    intro hmode
    obtain ⟨hhold, hqueue, hflight, hjam, htimer⟩ := hs hmode
    exact ⟨hhold, hqueue, by simp [countDown, hflight], hjam, by simp [countDown, htimer]⟩

end

/-! The lengths of the output queue and of the in-flight list (R122, R124). -/

section
variable {s t : State}

theorem FrameStep.keeps_queueLaw (h : FrameStep s t) (hs : queueLaw s) : queueLaw t := by
  cases h with
  | leaves x y rest _ hroom =>
    refine .inl ?_
    rw [emitSlot_output_queue, List.length_append]
    exact hroom
  | occurs e => simpa [queueLaw] using hs
  | supersedes | rewrites | shuts | opensBound | opensUnbound | grows | joins => exact hs

theorem FrameRun.keeps_queueLaw (h : FrameRun s t) (hs : queueLaw s) : queueLaw t :=
  h.keeps (fun _ _ hstep => hstep.keeps_queueLaw) hs

theorem FilmRun.keeps_queueLaw (h : FilmRun s t) (hs : queueLaw s) : queueLaw t :=
  h.keeps_work (fun _ _ hstep => hstep.keeps_queueLaw)
    (fun _ _ hwork hu => by unfold queueLaw; rw [hwork.queue]; exact hu) hs

theorem bindAppended_keeps_queueLaw (hs : queueLaw s) : queueLaw (bindAppended s).2 := by
  rcases bindAppended_cases s with ⟨d, e, rest, -, -, -, hbind⟩ | ⟨-, hbind⟩ <;> rw [hbind]
  · exact (release_frameRun _).keeps_queueLaw (by simpa [queueLaw] using hs)
  · exact hs

theorem BlockMove.keeps_queueLaw (h : BlockMove s t) (hs : queueLaw s) : queueLaw t := by
  cases h with
  | same hsame => unfold queueLaw; rw [hsame.output]; exact hs
  | powers pins => exact .inl (Nat.zero_le 24)
  | resets mode => exact .inl (Nat.zero_le 24)
  | films _ hfilm => exact hfilm.run.keeps_queueLaw hs
  | flushExpires => exact (expireFlush_run s).keeps_queueLaw hs
  | jams i => simpa [queueLaw] using hs
  | sends i rest hqueue =>
    refine (release_frameRun _).keeps_queueLaw (.inl ?_)
    unfold queueLaw at hs
    rw [hqueue, List.length_cons] at hs
    simp only [outputTest_output_queue]
    omega
  | reports | countsDown => exact hs
  | acts hacts =>
    cases hacts with
    | appends operand first es =>
      have hbound := bindAppended_keeps_queueLaw (s := joinEntries first es s) hs
      simpa [queueLaw, reportList] using hbound
    | flushes => exact (flushCommand_run s).keeps_queueLaw hs
    | reissues i _ _ hroom =>
      refine (release_frameRun _).keeps_queueLaw ?_
      simp only [queueLaw, endHold, outputTest_output_queue, requestHalt_output_queue, List.length_cons, List.head?_cons,
        Option.map_some, and_true]
      omega
    | drops i => simpa [queueLaw, dropJammed, endHold] using hs
    | tableRepaired | masks | arms => simpa [queueLaw] using hs
    | nothing | joins | converts | passes | table | settings | punch | fields | clearsList | clearsCounters
    | clearsEvents => exact hs

theorem BlockMove.keeps_creditLaw (h : BlockMove s t) (hquiet : quietLaw s) (hs : creditLaw s) : creditLaw t := by
  have ofFrame {u : State} (h : FilmFrame s u) : creditLaw u := by
    obtain ⟨⟨_, _, _, _, _, hflight, _, _, hsettings, _⟩, _⟩ := h
    unfold creditLaw
    rw [hflight, hsettings]
    exact hs
  cases h with
  | same hsame => unfold creditLaw; rw [hsame.output, hsame.settings]; exact hs
  | powers pins => exact Nat.zero_le _
  | resets mode => exact Nat.zero_le _
  | films _ hfilm => exact ofFrame (.ofFilmRun hfilm.run)
  | flushExpires => exact ofFrame (.ofFilmRun (expireFlush_run s))
  | reports es hfewer => exact hfewer.trans hs
  | jams i => simpa [creditLaw] using hs
  | sends i rest _ hmay =>
    simp only [maySend, Bool.and_eq_true, decide_eq_true_eq] at hmay
    simpa [creditLaw, takeInstruction] using hmay.1
  | countsDown => simpa [creditLaw, countDown] using hs
  | acts hacts =>
    cases hacts with
    | settings operand v _ hmode =>
      obtain ⟨-, -, hflight, -⟩ := hquiet hmode
      simp [creditLaw, hflight]
    | appends operand first es =>
      obtain ⟨⟨_, _, _, _, _, hflight, _, _, hsettings, _⟩, _⟩ := FilmFrame.appended first es s
      unfold creditLaw
      rw [hflight, hsettings]
      exact hs
    | flushes => exact ofFrame (.ofFilmRun (flushCommand_run s))
    | reissues i => simpa [creditLaw, reissue, endHold] using hs
    | drops i => simpa [creditLaw, dropJammed, endHold] using hs
    | tableRepaired | masks | arms => simpa [creditLaw] using hs
    | nothing | joins | converts | passes | table | punch | fields | clearsList | clearsCounters | clearsEvents => exact hs

/-! The hysteresis of OUTPUT (R139). -/

/-- The OUTPUT test brings OUTPUT to where the levels ask for it (R139). -/
theorem hysteresisLaw_outputTest (h : s.command.settings.goLevel < s.command.settings.stopLevel) :
    hysteresisLaw (outputTest s) := by
  have hset (b : Bool) : (requestHalt .output b s).output.halt.output = b := requestHalt_haltHas .output b s
  unfold outputTest
  dsimp only
  split_ifs with hstop hgo
  · simp only [hysteresisLaw, hset, requestHalt_command, requestHalt_output_queue]
    exact ⟨fun _ => trivial, by omega⟩
  · simp only [hysteresisLaw, hset, requestHalt_command, requestHalt_output_queue]
    exact ⟨by omega, fun _ => trivial⟩
  · exact ⟨fun h => absurd h hstop, fun h => absurd h hgo⟩

/-- The levels are apart, and OUTPUT follows them. -/
def LevelsHold (s : State) : Prop := s.command.settings.goLevel < s.command.settings.stopLevel ∧ hysteresisLaw s

theorem LevelsHold.ofSame (hs : LevelsHold s) (hqueue : t.output.queue = s.output.queue)
    (hhalt : t.output.halt.output = s.output.halt.output) (hsettings : t.command.settings = s.command.settings) :
    LevelsHold t := by
  unfold LevelsHold hysteresisLaw
  rw [hqueue, hhalt, hsettings]
  exact hs

theorem FrameStep.keeps_levels (h : FrameStep s t) (hs : LevelsHold s) : LevelsHold t := by
  cases h with
  | leaves x y rest => exact ⟨by simpa using hs.1, hysteresisLaw_outputTest hs.1⟩
  | occurs e => exact hs.ofSame (by simp) (by simp) (by simp)
  | supersedes | rewrites | shuts | opensBound | opensUnbound | grows | joins => exact hs

theorem FrameRun.keeps_levels (h : FrameRun s t) (hs : LevelsHold s) : LevelsHold t :=
  h.keeps (fun _ _ hstep => hstep.keeps_levels) hs

theorem FilmRun.keeps_levels (h : FilmRun s t) (hs : LevelsHold s) : LevelsHold t :=
  h.keeps_work (fun _ _ hstep => hstep.keeps_levels) (fun _ _ hwork hu => hu.ofSame hwork.queue hwork.haltOutput hwork.settings) hs

theorem LevelsHold.requestHalt (hs : LevelsHold s) {k : HaltReason} (hk : k ≠ .output) (b : Bool) :
    LevelsHold (requestHalt k b s) :=
  hs.ofSame (by simp) (requestHalt_other k .output b s hk.symm) (by simp)

theorem LevelsHold.bindAppended (hs : LevelsHold s) : LevelsHold (bindAppended s).2 := by
  rcases bindAppended_cases s with ⟨d, e, rest, -, -, -, hbind⟩ | ⟨-, hbind⟩ <;> rw [hbind]
  · exact (release_frameRun _).keeps_levels (hs.ofSame (by simp) (by simp) (by simp))
  · exact hs

theorem levelsHold_iff (hsettings : settingsLaw s) : LevelsHold s ↔ hysteresisLaw s :=
  and_iff_right hsettings.2.2.2.2.2.2.2

theorem BlockMove.keeps_hysteresisLaw (h : BlockMove s t) (hquiet : quietLaw s) (hsettings : settingsLaw s)
    (hs : hysteresisLaw s) : hysteresisLaw t := by
  have hlevels : LevelsHold s := (levelsHold_iff hsettings).mpr hs
  have htested (u : State) (hu : u.command.settings = s.command.settings) : LevelsHold (outputTest u) :=
    ⟨by simpa [hu] using hlevels.1, hysteresisLaw_outputTest (hu ▸ hlevels.1)⟩
  cases h with
  | same hsame => exact (hlevels.ofSame (by rw [hsame.output]) (by rw [hsame.output]) hsame.settings).2
  | powers pins => exact ⟨fun h => absurd h (by decide : ¬16 ≤ 0), fun _ => rfl⟩
  | resets mode =>
    refine ⟨fun h => ?_, fun _ => rfl⟩
    have hstop := hlevels.1
    exact absurd (hstop.trans_le h) (Nat.not_lt_zero _)
  | films _ hfilm => exact (hfilm.run.keeps_levels hlevels).2
  | flushExpires => exact ((expireFlush_run s).keeps_levels hlevels).2
  | jams i =>
    refine (LevelsHold.requestHalt ?_ (k := .jam) (by decide) true).2
    exact hlevels
  | sends i rest =>
    refine ((release_frameRun _).keeps_levels (htested _ ?_)).2
    rfl
  | reports | countsDown => exact hs
  | acts hacts =>
    cases hacts with
    | settings operand v hlen hmode hv hgood =>
      obtain ⟨-, hqueue, -⟩ := hquiet hmode
      obtain ⟨-, hclear⟩ := hs
      have hapart := (inconsistency_eq_zero hgood).2.2.2
      refine ⟨fun h => ?_, fun _ => hclear (by simp [hqueue])⟩
      simp only [hqueue, List.length_nil] at h
      omega
    | appends operand first es =>
      have hjoined : LevelsHold (joinEntries first es s) := hlevels
      exact (hjoined.bindAppended.requestHalt (by decide) _).2
    | flushes => exact ((flushCommand_run s).keeps_levels hlevels).2
    | reissues i => exact ((release_frameRun _).keeps_levels (htested _ (by simp [endHold]))).2
    | drops i =>
      refine (LevelsHold.requestHalt ?_ (k := .jam) (by decide) false).2
      exact hlevels
    | tableRepaired | masks | arms => exact (hlevels.ofSame (by simp) (by simp) (by simp)).2
    | nothing | joins | converts | passes | table | punch | fields | clearsList | clearsCounters | clearsEvents => exact hs

end

/-! The reasons LIST, LOST and JAM (R27, R73, R129, R135, R136). -/

/-- The reasons that release does not touch are as they were. -/
structure SameReasons (s t : State) : Prop where
  list : t.output.halt.list = s.output.halt.list
  lost : t.output.halt.lost = s.output.halt.lost
  jam : t.output.halt.jam = s.output.halt.jam

namespace SameReasons

variable {s t u : State}

theorem trans (h : SameReasons s t) (k : SameReasons t u) : SameReasons s u :=
  ⟨k.list.trans h.list, k.lost.trans h.lost, k.jam.trans h.jam⟩

theorem ofOutput (h : t.output.halt = s.output.halt) : SameReasons s t := ⟨by rw [h], by rw [h], by rw [h]⟩

theorem outputTest (s : State) : SameReasons s (outputTest s) := by
  rcases outputTest_cases s with h | ⟨b, h⟩ <;> rw [h]
  · exact ofOutput rfl
  · exact ⟨requestHalt_other .output .list b s (by decide), requestHalt_other .output .lost b s (by decide),
      requestHalt_other .output .jam b s (by decide)⟩

theorem ofFrameStep (h : FrameStep s t) : SameReasons s t := by
  cases h with
  | leaves x y rest =>
    refine trans ?_ (outputTest _)
    exact ofOutput rfl
  | occurs e => exact ofOutput (by simp)
  | supersedes | rewrites | shuts | opensBound | opensUnbound | grows | joins => exact ofOutput rfl

theorem ofFrameRun (h : FrameRun s t) : SameReasons s t :=
  h.keeps (P := SameReasons s) (fun _ _ hstep hs => hs.trans (ofFrameStep hstep)) (ofOutput rfl)

end SameReasons

section
variable {s t : State}

theorem requestHalt_list_reasons (b : Bool) (s : State) :
    (requestHalt .list b s).output.halt.list = b ∧ (requestHalt .list b s).output.halt.lost = s.output.halt.lost ∧
    (requestHalt .list b s).output.halt.jam = s.output.halt.jam :=
  ⟨requestHalt_haltHas .list b s, requestHalt_other .list .lost b s (by decide), requestHalt_other .list .jam b s (by decide)⟩

theorem requestHalt_lost_reasons (b : Bool) (s : State) :
    (requestHalt .lost b s).output.halt.lost = b ∧ (requestHalt .lost b s).output.halt.list = s.output.halt.list ∧
    (requestHalt .lost b s).output.halt.jam = s.output.halt.jam :=
  ⟨requestHalt_haltHas .lost b s, requestHalt_other .lost .list b s (by decide), requestHalt_other .lost .jam b s (by decide)⟩

theorem requestHalt_jam_reasons (b : Bool) (s : State) :
    (requestHalt .jam b s).output.halt.jam = b ∧ (requestHalt .jam b s).output.halt.list = s.output.halt.list ∧
    (requestHalt .jam b s).output.halt.lost = s.output.halt.lost :=
  ⟨requestHalt_haltHas .jam b s, requestHalt_other .jam .list b s (by decide), requestHalt_other .jam .lost b s (by decide)⟩

/-- Film traffic asks only for LIST and LOST. -/
theorem FilmRun.halt_jam (h : FilmRun s t) : t.output.halt.jam = s.output.halt.jam := by
  refine h.keeps (P := fun u => u.output.halt.jam = s.output.halt.jam) (fun u v hstep hu => Eq.trans ?_ hu) rfl
  cases hstep with
  | samples | occurs => simp
  | halts k b hk =>
    rcases hk with rfl | rfl
    · exact (requestHalt_list_reasons b u).2.2
    · exact (requestHalt_lost_reasons b u).2.2
  | takes f htake => exact (SameReasons.ofFrameRun (takeFrame_frameRun htake)).jam
  | closes => exact (SameReasons.ofFrameRun (closeAndRelease_frameRun u)).jam
  | releases => exact (SameReasons.ofFrameRun (release_frameRun u)).jam
  | tracks | empties | times | counts => rfl

/-! LOST through the tracker (R12, R26, R27). -/

/-- LOST stands exactly while the tracker is LOST. -/
def LostTold (s : State) : Prop := s.output.halt.lost = decide (s.tracker.state = .lost)

/-- The tracker's state and the reason LOST are as they were. -/
def SameLost (s t : State) : Prop := t.tracker.state = s.tracker.state ∧ t.output.halt.lost = s.output.halt.lost

theorem SameLost.trans {u : State} (h : SameLost s t) (k : SameLost t u) : SameLost s u := ⟨k.1.trans h.1, k.2.trans h.2⟩

theorem SameLost.told (h : SameLost s t) (hs : LostTold s) : LostTold t := by
  unfold LostTold
  rw [h.1, h.2]
  exact hs

theorem takeFrame_sameLost {f : ClosedFrame} (h : takeFrame f s = some t) : SameLost s t :=
  ⟨by rw [takeFrame_tracker f s t h], (SameReasons.ofFrameRun (takeFrame_frameRun h)).lost⟩

theorem loseFrame_sameLost (f : ClosedFrame) (s : State) : SameLost s (loseFrame f s) :=
  ⟨by simp [loseFrame, noteLoss], by simp [loseFrame, noteLoss]⟩

/-- Only a loss at a MARK or a flush expiry makes the tracker LOST (R26). -/
theorem takeLoss_sameLost {o : Occasion} (ho : o ≠ .live) (f : ClosedFrame) (s : State) : SameLost s (takeLoss o f s) := by
  cases o with
  | live => exact absurd rfl ho
  | reelChange => exact ⟨by simp [takeLoss, noteLoss], by simp [takeLoss, noteLoss]⟩
  | reversal => exact loseFrame_sameLost f s
  | exhausted => exact loseFrame_sameLost f s

theorem takeLoss_live_told (f : ClosedFrame) (s : State) : LostTold (takeLoss .live f s) := by
  unfold LostTold takeLoss
  rw [(requestHalt_lost_reasons true _).1]
  simp

theorem handOver_sameLost {o : Occasion} (ho : o ≠ .live) (fs : List ClosedFrame) (s : State) :
    SameLost s (handOver o fs s) := by
  induction fs generalizing s with
  | nil => exact ⟨rfl, rfl⟩
  | cons f fs ih =>
    unfold handOver
    split
    · exact takeLoss_sameLost ho f s
    · rename_i t htake
      exact (takeFrame_sameLost htake).trans (ih _)

theorem handOver_live_told (fs : List ClosedFrame) (hs : LostTold s) : LostTold (handOver .live fs s) := by
  induction fs generalizing s with
  | nil => exact hs
  | cons f fs ih =>
    unfold handOver
    split
    · exact takeLoss_live_told f s
    · rename_i t htake
      refine ih ?_
      exact (takeFrame_sameLost htake).told hs

theorem flushBuffer_sameLost {o : Occasion} (ho : o ≠ .live) (s : State) : SameLost s (flushBuffer o s) :=
  handOver_sameLost ho _ _

@[simp] theorem pitchEvent_output (c : PitchClass) (s : State) : (pitchEvent c s).output = s.output := by
  unfold pitchEvent
  split <;> simp

@[simp] theorem afterClose_output (f : ClosedFrame) (s : State) : (afterClose f s).output = s.output := by
  unfold afterClose
  dsimp only
  split_ifs <;> simp

@[simp] theorem afterClose_tracker_state (f : ClosedFrame) (s : State) :
    (afterClose f s).tracker.state = s.tracker.state := by
  rw [afterClose_tracker]

theorem exhaust_lost (o : Occasion) (s : State) :
    (exhaust o s).output.halt.lost = s.output.halt.lost ∧ (exhaust o s).tracker.state = .full := by
  have hflush {q : Occasion} (hq : q ≠ .live) (t : State) :
      (flushBuffer q { t with tracker.state := .full }).output.halt.lost = t.output.halt.lost ∧
      (flushBuffer q { t with tracker.state := .full }).tracker.state = .full := by
    obtain ⟨hstate, hlost⟩ := flushBuffer_sameLost hq { t with tracker.state := .full }
    exact ⟨hlost, hstate⟩
  have hclosed : (occur .reelFull (emptyAcc { s with tracker.assembly := none })).output = s.output := by simp
  rw [← hclosed]
  unfold exhaust
  dsimp only
  split
  · exact hflush (by decide) _
  · exact hflush (by decide) _

/-- The acquisition rules begin with LOST clear, and only a live loss sets it. -/
theorem acquire_live_told (f : ClosedFrame) (hstate : s.tracker.state = .acquire) (hlost : s.output.halt.lost = false) :
    LostTold (acquire .live f s) := by
  unfold acquire
  dsimp only
  split_ifs
  · exact handOver_live_told _ (by simp [LostTold, hlost])
  · exact handOver_live_told _ (by simp [LostTold, hlost])
  · simp [LostTold, hstate, hlost]
  · exact handOver_live_told _ (by simp [LostTold, hlost, hstate])

theorem acquire_lost {o : Occasion} (ho : o ≠ .live) (f : ClosedFrame) (s : State) :
    (acquire o f s).output.halt.lost = s.output.halt.lost := by
  unfold acquire
  dsimp only
  split_ifs
  · rw [(handOver_sameLost ho _ _).2]
  · rw [(handOver_sameLost ho _ _).2]
    simp
  · rfl
  · rw [(handOver_sameLost ho _ _).2]

theorem LostTold.lost_of_ne (hs : LostTold s) (h : s.tracker.state ≠ .lost) : s.output.halt.lost = false := by
  rw [hs]
  exact decide_eq_false h

theorem closeAssembly_live_told (p : PitchSource) (hstate : s.tracker.state ≠ .lost) (hs : LostTold s) :
    LostTold (closeAssembly .live p s) := by
  have hlost := hs.lost_of_ne hstate
  unfold closeAssembly
  split
  · exact hs
  · split_ifs
    · obtain ⟨hkept, hfull⟩ := exhaust_lost .live s
      simp [LostTold, hkept, hfull, hlost]
    · dsimp only [routeFrame]
      split_ifs with hacquire
      · exact acquire_live_told _ hacquire (by simpa using hlost)
      · exact handOver_live_told _ (by simpa [LostTold] using hs)

theorem closeAssembly_lost {o : Occasion} (ho : o ≠ .live) (p : PitchSource) (s : State) :
    (closeAssembly o p s).output.halt.lost = s.output.halt.lost := by
  unfold closeAssembly
  split
  · rfl
  · split_ifs
    · exact (exhaust_lost o s).1
    · dsimp only [routeFrame]
      split_ifs
      · rw [acquire_lost ho, afterClose_output]
      · rw [(handOver_sameLost ho _ _).2, afterClose_output]

theorem endReel_lost (s : State) : (endReel s).output.halt.lost = s.output.halt.lost := by
  unfold endReel
  rw [(SameReasons.ofFrameRun (closeAndRelease_frameRun _)).lost, (flushBuffer_sameLost (by decide) _).2,
    closeAssembly_lost (by decide)]

theorem leaveReel_told {next : TrackerState} {u : State} (hnext : next ≠ .lost) (hkept : u.output.halt.lost = s.output.halt.lost)
    (hs : LostTold s) : LostTold (leaveReel next (decide (s.tracker.state = .lost)) u) := by
  unfold leaveReel
  dsimp only
  split_ifs with hlost
  · simp [LostTold, (requestHalt_lost_reasons _ _).1, hnext]
  · have hclear := hs.lost_of_ne (by simpa using hlost)
    simp [LostTold, hkept, hclear, hnext]

theorem forwardMark_told (m : MarkClass) (c : Nat) (hstate : s.tracker.state ≠ .lost) (hs : LostTold s) :
    LostTold (forwardMark m c s) := by
  have hclosed := closeAssembly_live_told (.counters (c - markInForce s.tracker)) hstate hs
  unfold forwardMark
  dsimp only
  split_ifs
  · simpa [LostTold, startFrame] using hclosed
  · exact hclosed

theorem reverse_told (hstate : s.tracker.state ≠ .lost) (hs : LostTold s) : LostTold (reverse s) := by
  have hlost := hs.lost_of_ne hstate
  unfold reverse
  dsimp only
  split_ifs
  · simp [LostTold, (flushBuffer_sameLost (o := .reversal) (by decide) _).2, hlost]
  · simp [LostTold, hlost]

theorem newMark_told (m : MarkClass) (c : Nat) (hs : LostTold s) : LostTold (newMark m c s) := by
  unfold newMark
  split
  · rename_i hstate
    have hne : s.tracker.state ≠ .lost := by rw [hstate]; decide
    split_ifs
    · exact reverse_told hne hs
    · exact forwardMark_told m c hne hs
  · rename_i hstate
    have hne : s.tracker.state ≠ .lost := by rw [hstate]; decide
    split_ifs
    · exact reverse_told hne hs
    · exact forwardMark_told m c hne hs
  · rename_i hstate
    have hlost := hs.lost_of_ne (by rw [hstate]; decide)
    unfold rewoundMark
    split_ifs
    · simpa [LostTold] using hs
    · exact hs
    · simp [LostTold, startFrame, hlost]
  · unfold lostMark
    split_ifs
    · simp [LostTold, (requestHalt_lost_reasons _ _).1]
    · exact hs
  · exact hs
  · exact hs

theorem ignoreInIdle_told (hs : LostTold s) : LostTold (ignoreInIdle s) := by simpa [LostTold, ignoreInIdle] using hs

theorem trackMark_told (m : MarkClass) (c : Nat) (hs : LostTold s) : LostTold (trackMark m c s) := by
  unfold trackMark
  split
  · exact ignoreInIdle_told hs
  · exact hs
  · split_ifs
    · exact hs
    · exact newMark_told m c hs

@[simp] theorem restartTimer_output (s : State) : (restartTimer s).output = s.output := by
  unfold restartTimer
  split_ifs <;> rfl

@[simp] theorem restartTimer_matching_drawing (s : State) : (restartTimer s).matching.drawing = s.matching.drawing := by
  unfold restartTimer
  split_ifs <;> rfl

@[simp] theorem settleTimer_output (s : State) : (settleTimer s).output = s.output := by
  unfold settleTimer
  split_ifs <;> rfl

theorem LostTold.reportList (hs : LostTold s) : LostTold (reportList s) := by
  unfold LostTold Machine.reportList
  rw [(requestHalt_list_reasons _ _).2.1, requestHalt_tracker]
  exact hs

theorem flushAssembly_told (hs : LostTold s) : LostTold (flushAssembly s) := by
  unfold flushAssembly
  split_ifs with hstate
  · exact closeAssembly_live_told _ (by rcases hstate with h | h <;> rw [h] <;> decide) hs
  · exact hs

theorem closeAndRelease_sameLost (s : State) : SameLost s (closeAndRelease s) :=
  ⟨by simp, (SameReasons.ofFrameRun (closeAndRelease_frameRun s)).lost⟩

theorem release_sameLost (s : State) : SameLost s (release s) :=
  ⟨by simp, (SameReasons.ofFrameRun (release_frameRun s)).lost⟩

/-! Each of the three laws through film traffic. -/

/-- LIST stands exactly while the drawing is OPEN_UNBOUND. -/
def ListTold (s : State) : Prop := s.output.halt.list = s.matching.drawing.any (fun d => d.entry.isNone)

theorem openUnbound_eq (m : MatchingEngine) : openUnbound m = m.drawing.any (fun d => d.entry.isNone) := by
  unfold openUnbound
  cases m.drawing <;> rfl

/-- The report at the end of an arrival tells the drawing as it stands then (R73). -/
theorem reportList_told (s : State) : ListTold (reportList s) := by
  unfold ListTold
  rw [reportList_list, openUnbound_eq]

/-- The output is HELD exactly while the jam record is occupied, and JAM stands then. -/
def JamTold (s : State) : Prop := s.output.halt.jam = s.output.held ∧ s.output.held = s.output.jam.isSome

theorem haltLaw_iff (s : State) : haltLaw s ↔ ListTold s ∧ LostTold s ∧ JamTold s := Iff.rfl

theorem FilmRun.keeps_jamTold (h : FilmRun s t) (hs : JamTold s) : JamTold t := by
  obtain ⟨⟨_, _, _, _, _, _, hjam, hheld, _, _⟩, _⟩ := FilmFrame.ofFilmRun h
  unfold JamTold
  rw [h.halt_jam, hjam, hheld]
  exact hs

theorem trackScan_frame (payload : List Byte) (s : State) :
    (trackScan payload s).output = s.output ∧ (trackScan payload s).matching = s.matching ∧
    (trackScan payload s).tracker.state = s.tracker.state := by
  unfold trackScan takeLine ignoreInIdle
  split
  · simp
  · simp
  · split
    · simp
    · split
      · simp
      · split_ifs <;> simp

theorem ListTold.ofSame (hs : ListTold s) (houtput : t.output = s.output)
    (hdrawing : t.matching.drawing = s.matching.drawing) : ListTold t := by
  unfold ListTold
  rw [houtput, hdrawing]
  exact hs

theorem Film.keeps_haltLaw (h : Film s t) (hs : haltLaw s) : haltLaw t := by
  obtain ⟨hlist, hlost, hjam⟩ := (haltLaw_iff s).mp hs
  refine (haltLaw_iff t).mpr ⟨?list, ?lost, h.run.keeps_jamTold hjam⟩
  case list =>
    cases h with
    | reel r => exact reportList_told _
    | mark m c => exact reportList_told _
    | scan payload =>
      obtain ⟨houtput, hmatching, -⟩ := trackScan_frame payload s
      exact hlist.ofSame (by simp [takeScan, houtput]) (by simp [takeScan, hmatching])
    | reelEnd =>
      unfold takeReelEnd
      split_ifs
      · exact hlist.ofSame (by simp [ignoreInIdle]) (by simp [ignoreInIdle])
      · exact reportList_told _
  case lost =>
    cases h with
    | reel r =>
      refine LostTold.reportList ?_
      have hleft := leaveReel_told (next := .acquire) (u := loadReel r (endReel s)) (by decide) (endReel_lost s) hlost
      simpa [LostTold] using hleft
    | mark m c =>
      refine LostTold.reportList ?_
      have htracked := trackMark_told m c hlost
      simpa [LostTold] using htracked
    | scan payload =>
      obtain ⟨houtput, -, hstate⟩ := trackScan_frame payload s
      simpa [LostTold, takeScan, houtput, hstate] using hlost
    | reelEnd =>
      unfold takeReelEnd
      split_ifs
      · exact ignoreInIdle_told hlost
      · refine LostTold.reportList ?_
        have hleft := leaveReel_told (next := .idle) (u := endReel s) (by decide) (endReel_lost s) hlost
        simpa [LostTold] using hleft

theorem expireFlush_keeps_haltLaw (hs : haltLaw s) : haltLaw (expireFlush s) := by
  obtain ⟨-, hlost, hjam⟩ := (haltLaw_iff s).mp hs
  have hjamTold := (expireFlush_run s).keeps_jamTold hjam
  unfold expireFlush at hjamTold ⊢
  split at hjamTold
  · exact hs
  · refine (haltLaw_iff _).mpr ⟨reportList_told _, LostTold.reportList ?_, hjamTold⟩
    exact (release_sameLost _).told ((closeAndRelease_sameLost _).told (flushAssembly_told hlost))

theorem bindAppended_sameReasons (s : State) :
    SameReasons s (bindAppended s).2 ∧ (bindAppended s).2.tracker = s.tracker := by
  rcases bindAppended_cases s with ⟨d, e, rest, -, -, -, hbind⟩ | ⟨-, hbind⟩ <;> rw [hbind]
  · exact ⟨.trans (.ofOutput (by simp)) (.ofFrameRun (release_frameRun _)), by simp [bindLate]⟩
  · exact ⟨.ofOutput rfl, rfl⟩

theorem endHold_keeps_haltLaw (hs : haltLaw s) : haltLaw (endHold s) := by
  obtain ⟨hlist, hlost, -⟩ := hs
  unfold endHold
  obtain ⟨hjam, hlist', hlost'⟩ := requestHalt_jam_reasons false { s with output.jam := none, output.held := false }
  exact ⟨by rw [hlist']; simpa using hlist, by rw [hlost']; simpa using hlost, by rw [hjam]; simp, by simp⟩

/-- Release and the OUTPUT test say nothing of the other reasons. -/
theorem haltLaw_ofSame (hs : haltLaw s) (hreasons : SameReasons s t) (htracker : t.tracker.state = s.tracker.state)
    (hdrawing : t.matching.drawing = s.matching.drawing) (hheld : t.output.held = s.output.held)
    (hjam : t.output.jam = s.output.jam) : haltLaw t := by
  unfold haltLaw
  rw [hreasons.list, hreasons.lost, hreasons.jam, htracker, hdrawing, hheld, hjam]
  exact hs

theorem Acts.keeps_haltLaw (h : Acts s t) (hs : haltLaw s) : haltLaw t := by
  cases h with
  | appends operand first es =>
    obtain ⟨-, hlost, hjam⟩ := (haltLaw_iff s).mp hs
    obtain ⟨hreasons, htracker⟩ := bindAppended_sameReasons (joinEntries first es s)
    obtain ⟨⟨_, _, _, _, _, _, hrecord, hheld, _, _⟩, _⟩ := FilmFrame.appended first es s
    refine (haltLaw_iff _).mpr ⟨reportList_told _, LostTold.reportList ?_, ?_⟩
    · exact SameLost.told (s := joinEntries first es s) ⟨by rw [htracker], hreasons.lost⟩ hlost
    · unfold JamTold
      rw [hrecord, hheld, reportList, (requestHalt_list_reasons _ _).2.2, hreasons.jam]
      exact hjam
  | flushes =>
    obtain ⟨-, hlost, hjam⟩ := (haltLaw_iff s).mp hs
    refine (haltLaw_iff _).mpr ⟨reportList_told _, LostTold.reportList ?_, (flushCommand_run s).keeps_jamTold hjam⟩
    have hclosed := (closeAndRelease_sameLost s).told hlost
    simpa [LostTold] using hclosed
  | reissues i =>
    have hended : haltLaw (endHold { s with output.queue := { i with reissued := true } :: s.output.queue }) :=
      endHold_keeps_haltLaw (by exact hs)
    exact haltLaw_ofSame hended (.trans (.outputTest _) (.ofFrameRun (release_frameRun _))) (by simp [reissue])
      (by simp [reissue]) (by simp [reissue]) (by simp [reissue])
  | drops i => exact endHold_keeps_haltLaw (by exact hs)
  | tableRepaired | masks | arms => simpa [haltLaw] using hs
  | nothing | joins | converts | passes | table | settings | punch | fields | clearsList | clearsCounters | clearsEvents =>
    exact hs

theorem BlockMove.keeps_haltLaw (h : BlockMove s t) (hs : haltLaw s) : haltLaw t := by
  cases h with
  | same hsame => unfold haltLaw; rw [hsame.output, hsame.matching, hsame.tracker]; exact hs
  | powers pins => exact ⟨rfl, rfl, rfl, rfl⟩
  | acts hacts => exact hacts.keeps_haltLaw hs
  | resets mode => exact ⟨rfl, rfl, rfl, rfl⟩
  | films _ hfilm => exact hfilm.keeps_haltLaw hs
  | flushExpires => exact expireFlush_keeps_haltLaw hs
  | jams i =>
    obtain ⟨hlist, hlost, -⟩ := hs
    obtain ⟨hjam, hlist', hlost'⟩ := requestHalt_jam_reasons true { s with output.jam := some i, output.held := true }
    exact ⟨by rw [hlist']; simpa using hlist, by rw [hlost']; simpa using hlost, by rw [hjam]; simp, by simp⟩
  | sends i rest =>
    refine haltLaw_ofSame hs (.trans (.trans ?_ (.outputTest _)) (.ofFrameRun (release_frameRun _)))
      (by simp [takeInstruction]) (by simp [takeInstruction]) (by simp [takeInstruction]) (by simp [takeInstruction])
    exact .ofOutput rfl
  | reports | countsDown => exact hs

end

end Sys2Proof.Machine

namespace Sys2Proof.Proofs

open Sys2Proof.Machine

/-- Settles O57: each law is kept by every move of the blocks; the bound on the in-flight list and the hysteresis need that a load
of the settings finds nothing in flight and nothing queued, which is the law of what is held outside CONVERT. -/
theorem stepKeepsOutput : Obligations.StepKeepsOutput := by
  intro s t h
  refine ⟨step_keeps_of_moves (fun _ _ hmove => hmove.keeps_quietLaw) h,
    step_keeps_of_moves (fun _ _ hmove => hmove.keeps_queueLaw) h, fun hquiet hcredit => ?_, fun hquiet hsettings hout => ?_,
    step_keeps_of_moves (fun _ _ hmove => hmove.keeps_haltLaw) h⟩
  · exact (step_keeps_of_moves (P := fun u => Safety.quietLaw u ∧ Safety.creditLaw u)
      (fun _ _ hmove hu => ⟨hmove.keeps_quietLaw hu.1, hmove.keeps_creditLaw hu.1 hu.2⟩) h ⟨hquiet, hcredit⟩).2
  · exact (step_keeps_of_moves (P := fun u => Safety.quietLaw u ∧ Safety.settingsLaw u ∧ Safety.hysteresisLaw u)
      (fun _ _ hmove ⟨hq, hv, ho⟩ =>
        ⟨hmove.keeps_quietLaw hq, hmove.keeps_settingsLaw hv, hmove.keeps_hysteresisLaw hq hv ho⟩)
      h ⟨hquiet, hsettings, hout⟩).2.2

end Sys2Proof.Proofs
end

section
/-! The hold queue, release, the list and the drawing (R51, R52, R57 to R60, R70, R71, R74 to R76, R91): what every move of the
blocks keeps of their laws, with the obligation O58 assembled from it. -/

namespace Sys2Proof.Machine

open Sys2Proof.Safety

/-! The hold queue in rising frame order (R70). -/

section
variable {s t : State}

theorem numbersOf_length (hold : List Slot) : (numbersOf hold).length = hold.length := List.length_map _

/-- Slots that leave, or are rewritten in place, leave the rest in order. -/
theorem holdLaw_of_sublist (h : (numbersOf t.matching.hold).Sublist (numbersOf s.matching.hold)) (hs : holdLaw s) :
    holdLaw t := by
  have hlength := h.length_le
  rw [numbersOf_length, numbersOf_length] at hlength
  exact ⟨hlength.trans hs.1, hs.2.sublist h⟩

theorem release_numbers (s : State) : (numbersOf (release s).matching.hold).Sublist (numbersOf s.matching.hold) := by
  refine release_induction (P := fun u => (numbersOf u.matching.hold).Sublist (numbersOf s.matching.hold))
    (fun u x rest hhold _ _ hu => ?_) s (List.Sublist.refl _)
  have hdrop : (leaveHead u x).matching.hold = u.matching.hold.drop 1 := by simp [leaveHead]
  rw [hdrop]
  exact ((List.drop_sublist 1 _).map _).trans hu

@[simp] theorem closeDrawing_numbers (s : State) :
    numbersOf (closeDrawing s).matching.hold = numbersOf s.matching.hold := by
  unfold closeDrawing closeBound closeUnbound
  split
  · rfl
  · rename_i d _
    dsimp only
    split
    · split_ifs
      · simp [numbersOf_modifyNewest _ (withFlags_number _)]
      · rfl
    · have hnumber (x : Slot) : (if isCardOf d.serial x then makeException .unlisted x else x).number = x.number := by
        split_ifs <;> simp
      simp [numbersOf_map hnumber]

theorem closeAndRelease_numbers (s : State) :
    (numbersOf (closeAndRelease s).matching.hold).Sublist (numbersOf s.matching.hold) := by
  unfold closeAndRelease
  split
  · exact List.Sublist.refl _
  · exact (release_numbers _).trans (by simp)

@[simp] theorem openDrawing_hold (s : State) : (openDrawing s).matching.hold = s.matching.hold := by
  unfold openDrawing
  dsimp only
  split <;> simp

/-- The decisions about a card leave the held slots in place (R74, steps 3 to 6). -/
theorem takeCard_numbers (mark : MarkClass) (s : State) :
    numbersOf (takeCard mark s).state.matching.hold = numbersOf s.matching.hold := by
  have hdoc (g : SlotFlags) : numbersOf (takeDoc g s).state.matching.hold = numbersOf s.matching.hold := by
    simp [takeDoc_state]
  have hsheet (d : Drawing) (g : SlotFlags) : (takeSheetOf d g s).state.matching.hold = s.matching.hold := by
    unfold takeSheetOf
    split_ifs <;> rfl
  have hlate : (takeLateRetake s).state.matching.hold = s.matching.hold := by
    unfold takeLateRetake
    split
    · simp
    · split <;> simp
    · simp
  have hretake : numbersOf (takeRetake s).state.matching.hold = numbersOf s.matching.hold := by
    unfold takeRetake
    split
    · rw [hlate]
    · split
      · exact numbersOf_modifyNewest _ supersede_number _
      · rw [hlate]
  unfold takeCard
  split
  · exact hretake
  · split
    · split_ifs
      · rw [hsheet]
      · exact hdoc _
    · exact hdoc _
  · split
    · rw [hsheet]
    · exact hdoc _
  · exact hdoc _
  · exact hdoc _

/-- There is a place for a frame that is not refused, at the end of the same slots or fewer (R75). -/
theorem makeRoom_numbers (hs : s.matching.hold.length ≤ 32) :
    (numbersOf (makeRoom s).matching.hold).Sublist (numbersOf s.matching.hold) ∧ (makeRoom s).matching.hold.length < 32 := by
  unfold makeRoom
  split_ifs with hfull
  · unfold earlyRelease
    split
    · rename_i hnil
      simp [hnil, holdSlots] at hfull
    · rename_i slot rest hhold
      have hsub := release_numbers (emitSlot (earlySlot slot)
        { earlyUnlisted slot (occur .earlyRelease s) with matching.hold := rest })
      simp only [emitSlot_matching] at hsub
      refine ⟨hsub.trans ?_, ?_⟩
      · rw [hhold]
        exact (List.sublist_cons_self slot rest).map _
      · have hlength := hsub.length_le
        rw [numbersOf_length, numbersOf_length] at hlength
        rw [hhold, List.length_cons] at hs
        exact hlength.trans_lt hs
  · exact ⟨List.Sublist.refl _, Nat.lt_of_not_le hfull⟩

theorem joinSlot_keeps_holdLaw {slot : Slot} (hs : holdLaw s) (hroom : s.matching.hold.length < 32)
    (hlast : ∀ n ∈ numbersOf s.matching.hold, n < slot.number) : holdLaw (joinSlot slot s) := by
  refine holdLaw_of_sublist (release_numbers _) ⟨by simpa using hroom, ?_⟩
  have hordered := hs.2
  simpa [List.pairwise_append, numbersOf] using And.intro hordered hlast

/-- A frame joins behind slots of lower numbers only, since otherwise it is refused (R70, R76). -/
theorem takeFrame_keeps_holdLaw {f : ClosedFrame} (h : takeFrame f s = some t) (hs : holdLaw s) : holdLaw t := by
  rcases takeFrame_cases f s with ⟨_, e⟩ | ⟨hrefused, e⟩
  · rw [e] at h
    cases h
  · rw [e] at h
    cases h
    obtain ⟨hlength, hordered⟩ := hs
    have habove : ∀ n ∈ numbersOf s.matching.hold, n < f.number := by
      have htail := mt (fun h => (isRefused_iff f s).mpr (.inl h)) (Bool.eq_false_iff.mp hrefused)
      rcases List.eq_nil_or_concat s.matching.hold with hnil | ⟨before, tail, hhold⟩
      · simp [hnil, numbersOf]
      · have hlow : tail.number < f.number := by
          refine Nat.lt_of_not_le fun hle => htail ⟨tail, by simp [hhold], hle⟩
        rw [hhold, List.map_concat, List.concat_eq_append, List.pairwise_append] at hordered
        rw [hhold, numbersOf, List.map_concat]
        intro n hn
        rcases List.mem_append.mp (List.concat_eq_append ▸ hn) with hbefore | hlast
        · exact (hordered.2.2 n hbefore tail.number (List.mem_singleton.mpr rfl)).trans hlow
        · rw [List.mem_singleton.mp hlast]
          exact hlow
    obtain ⟨hsub, hroom⟩ := makeRoom_numbers hlength
    have hmade : holdLaw (makeRoom s) := holdLaw_of_sublist hsub ⟨hlength, hordered⟩
    have hmadeAbove : ∀ n ∈ numbersOf (makeRoom s).matching.hold, n < f.number := fun n hn => habove n (hsub.subset hn)
    unfold acceptFrame
    split
    · exact joinSlot_keeps_holdLaw hmade hroom hmadeAbove
    · have hnumbers := takeCard_numbers f.mark (makeRoom s)
      have hheld := congrArg List.length hnumbers
      rw [numbersOf_length, numbersOf_length] at hheld
      refine joinSlot_keeps_holdLaw (holdLaw_of_sublist (by rw [hnumbers]) hmade) (by omega) ?_
      rw [hnumbers]
      exact hmadeAbove

theorem FilmStep.keeps_holdLaw (h : FilmStep s t) (hs : holdLaw s) : holdLaw t := by
  cases h with
  | takes f htake => exact takeFrame_keeps_holdLaw htake hs
  | closes => exact holdLaw_of_sublist (closeAndRelease_numbers s) hs
  | releases => exact holdLaw_of_sublist (release_numbers s) hs
  | samples | occurs | halts => simpa [holdLaw] using hs
  | tracks | empties | times | counts => exact hs

theorem FilmRun.keeps_holdLaw (h : FilmRun s t) (hs : holdLaw s) : holdLaw t :=
  h.keeps (fun _ _ hstep => hstep.keeps_holdLaw) hs

theorem bindAppended_numbers (s : State) :
    (numbersOf (bindAppended s).2.matching.hold).Sublist (numbersOf s.matching.hold) := by
  rcases bindAppended_cases s with ⟨d, e, rest, -, -, -, hbind⟩ | ⟨-, hbind⟩ <;> rw [hbind]
  exact (release_numbers _).trans (by simp [numbersOf_map (bindSlot_number e d.serial)])

theorem Acts.keeps_holdLaw (h : Acts s t) (hs : holdLaw s) : holdLaw t := by
  cases h with
  | appends operand first es =>
    have hbound := holdLaw_of_sublist (bindAppended_numbers (joinEntries first es s)) hs
    simpa [holdLaw, reportList] using hbound
  | flushes => exact (flushCommand_run s).keeps_holdLaw hs
  | reissues i => exact holdLaw_of_sublist ((release_numbers _).trans (by simp [endHold])) hs
  | drops i => simpa [holdLaw, dropJammed, endHold] using hs
  | tableRepaired | masks | arms => simpa [holdLaw] using hs
  | nothing | joins | converts | passes | table | settings | punch | fields | clearsList | clearsCounters | clearsEvents =>
    exact hs

theorem BlockMove.keeps_holdLaw (h : BlockMove s t) (hs : holdLaw s) : holdLaw t := by
  cases h with
  | same hsame => unfold holdLaw; rw [hsame.matching]; exact hs
  | powers pins => exact ⟨Nat.zero_le 32, List.Pairwise.nil⟩
  | resets mode => exact ⟨Nat.zero_le 32, List.Pairwise.nil⟩
  | acts hacts => exact hacts.keeps_holdLaw hs
  | films _ hfilm => exact hfilm.run.keeps_holdLaw hs
  | flushExpires => exact (expireFlush_run s).keeps_holdLaw hs
  | jams i => simpa [holdLaw] using hs
  | sends i rest => exact holdLaw_of_sublist ((release_numbers _).trans (by simp)) hs
  | reports | countsDown => exact hs

end

/-! No releasable head waits while there is room (R91). -/

section
variable {s t : State}

theorem releasedLaw_ofSame (hs : releasedLaw s) (hhold : t.matching.hold = s.matching.hold)
    (hdrawing : t.matching.drawing = s.matching.drawing) (hqueue : t.output.queue = s.output.queue) : releasedLaw t := by
  unfold releasedLaw at hs ⊢
  rw [releaseHead_eq_none_iff] at hs ⊢
  simpa only [hhold, hqueue, isReleasable_congr hdrawing] using hs

/-- Every operation that changes the held slots, the drawing or the room ends with release. -/
theorem FilmStep.keeps_releasedLaw (h : FilmStep s t) (hs : releasedLaw s) : releasedLaw t := by
  cases h with
  | takes f htake =>
    rcases takeFrame_cases f s with ⟨_, e⟩ | ⟨_, e⟩
    · rw [e] at htake
      cases htake
    · rw [e] at htake
      cases htake
      unfold acceptFrame
      split <;> exact releaseHead_release _
  | closes =>
    unfold closeAndRelease
    split
    · exact hs
    · exact releaseHead_release _
  | releases => exact releaseHead_release s
  | samples | occurs | halts => exact releasedLaw_ofSame hs (by simp) (by simp) (by simp)
  | tracks | empties | times | counts => exact releasedLaw_ofSame hs rfl rfl rfl

theorem FilmRun.keeps_releasedLaw (h : FilmRun s t) (hs : releasedLaw s) : releasedLaw t :=
  h.keeps (fun _ _ hstep => hstep.keeps_releasedLaw) hs

theorem Acts.keeps_releasedLaw (h : Acts s t) (hs : releasedLaw s) : releasedLaw t := by
  cases h with
  | appends operand first es =>
    refine releasedLaw_ofSame (s := (bindAppended (joinEntries first es s)).2) ?_ (by simp [reportList])
      (by simp [reportList]) (by simp [reportList])
    rcases bindAppended_cases (joinEntries first es s) with ⟨d, e, rest, -, -, -, hbind⟩ | ⟨-, hbind⟩ <;> rw [hbind]
    · exact releaseHead_release _
    · exact releasedLaw_ofSame hs rfl rfl rfl
  | flushes => exact (flushCommand_run s).keeps_releasedLaw hs
  | reissues i => exact releaseHead_release _
  | drops i => exact releasedLaw_ofSame hs (by simp [dropJammed, endHold]) (by simp [dropJammed, endHold]) (by simp [dropJammed, endHold])
  | tableRepaired | masks | arms => exact releasedLaw_ofSame hs (by simp) (by simp) (by simp)
  | nothing | joins | converts | passes | table | settings | punch | fields | clearsList | clearsCounters | clearsEvents =>
    exact releasedLaw_ofSame hs rfl rfl rfl

theorem BlockMove.keeps_releasedLaw (h : BlockMove s t) (hs : releasedLaw s) : releasedLaw t := by
  cases h with
  | same hsame => exact releasedLaw_ofSame hs (by rw [hsame.matching]) (by rw [hsame.matching]) (by rw [hsame.output])
  | powers pins => exact releaseHead_of_nil rfl
  | resets mode => exact releaseHead_of_nil rfl
  | acts hacts => exact hacts.keeps_releasedLaw hs
  | films _ hfilm => exact hfilm.run.keeps_releasedLaw hs
  | flushExpires => exact (expireFlush_run s).keeps_releasedLaw hs
  | jams i => exact releasedLaw_ofSame hs (by simp) (by simp) (by simp)
  | sends i rest => exact releaseHead_release _
  | reports | countsDown => exact releasedLaw_ofSame hs rfl rfl rfl

end

/-! The drawing list (R51, R52, R57, R59). -/

section
variable {s t : State}

/-- The list without its head (R59). -/
theorem listLaw_tail {e : Entry} {rest : List Entry} (h : s.list.entries = e :: rest) (hs : listLaw s) :
    listLaw { s with list.entries := rest } := by
  obtain ⟨hlength, hentries, hnone, hnumbers⟩ := hs
  rw [h, List.length_cons] at hlength
  rw [h] at hentries hnone hnumbers
  refine ⟨Nat.le_of_succ_le hlength, (List.forall_mem_cons.mp hentries).2, fun hexp => absurd (hnone hexp) (by simp), ?_⟩
  intro x hx
  obtain ⟨hlt, hmap⟩ := hnumbers x hx
  refine ⟨hlt, ?_⟩
  rw [List.length_cons, List.range_succ_eq_map, List.map_cons, List.map_cons, List.map_map] at hmap
  injection hmap with _ hmap
  rw [hmap]
  refine List.map_congr_left fun i _ => ?_
  simp only [Function.comp_apply]
  congr 1
  omega

theorem convertEntries_length (first : Nat) (es : List RawEntry) : (convertEntries first es).length = es.length := by
  induction es generalizing first with
  | nil => rfl
  | cons e es ih => simp [convertEntries, ih]

theorem convertEntries_numbers (first : Nat) (es : List RawEntry) :
    (convertEntries first es).map (fun e => e.listNumber) = (List.range es.length).map (fun i => (first + i) % 65536) := by
  induction es generalizing first with
  | nil => rfl
  | cons e es ih =>
    rw [convertEntries, List.map_cons, ih, List.length_cons, List.range_succ_eq_map, List.map_cons, List.map_map]
    congr 1
    refine List.map_congr_left fun i _ => ?_
    simp only [Function.comp_apply]
    congr 1
    omega

theorem firstInvalid_eq_none_iff (pos : Nat) (es : List RawEntry) :
    firstInvalid pos es = none ↔ ∀ e ∈ es, entryValid e = true := by
  induction es generalizing pos with
  | nil => simp [firstInvalid]
  | cons e es ih =>
    unfold firstInvalid
    split_ifs with hvalid
    · simp [ih, hvalid]
    · simp [hvalid]

theorem entryLaw_convertEntry {e : RawEntry} (h : entryValid e = true) (n : Nat) : entryLaw (convertEntry n e) := by
  simpa [entryLaw, convertEntry, entryValid] using h

theorem entryLaw_convertEntries {es : List RawEntry} (h : ∀ e ∈ es, entryValid e = true) (first : Nat) :
    ∀ e ∈ convertEntries first es, entryLaw e := by
  induction es generalizing first with
  | nil => simp [convertEntries]
  | cons e es ih =>
    obtain ⟨he, hes⟩ := List.forall_mem_cons.mp h
    exact List.forall_mem_cons.mpr ⟨entryLaw_convertEntry he _, ih hes _⟩

/-- Entries that pass the checks join with consecutive numbers (R54, R57). -/
theorem listLaw_joinEntries {operand : List Byte} {first : Nat} {es : List RawEntry} (h : Appends s operand first es)
    (hs : listLaw s) : listLaw (joinEntries first es s) := by
  obtain ⟨-, hvalid, hexpected, hfits⟩ := h
  obtain ⟨-, hentries, hnone, hnumbers⟩ := hs
  have hold : s.list.entries.map (fun e => e.listNumber) =
      (List.range s.list.entries.length).map (fun i => (first + 65536 - s.list.entries.length + i) % 65536) := by
    rcases hexpected with hexp | hexp
    · simp [hnone hexp]
    · exact (hnumbers first hexp).2
  refine ⟨?_, ?_, fun h => (Option.some_ne_none _ h).elim, ?_⟩
  · simpa [joinEntries, convertEntries_length] using hfits
  · exact List.forall_mem_append.mpr ⟨hentries, entryLaw_convertEntries ((firstInvalid_eq_none_iff 1 es).mp hvalid) first⟩
  · intro x hx
    obtain rfl : (first + es.length) % 65536 = x := by simpa [joinEntries] using hx
    refine ⟨Nat.mod_lt _ (by decide), ?_⟩
    have hlength : (joinEntries first es s).list.entries.length = s.list.entries.length + es.length := by
      simp [joinEntries, convertEntries_length]
    rw [hlength, List.range_add, List.map_append, List.map_map]
    simp only [joinEntries, List.map_append, hold, convertEntries_numbers]
    congr 1
    · refine List.map_congr_left fun i hi => ?_
      have := List.mem_range.mp hi
      omega
    · refine List.map_congr_left fun i hi => ?_
      have := List.mem_range.mp hi
      simp only [Function.comp_apply]
      omega

theorem listLaw_ofSame (h : t.list = s.list) (hs : listLaw s) : listLaw t := by
  unfold listLaw
  rw [h]
  exact hs

theorem FrameStep.keeps_listLaw (h : FrameStep s t) (hs : listLaw s) : listLaw t := by
  cases h with
  | opensBound e rest serial hentries => exact listLaw_tail hentries hs
  | leaves x y rest => exact listLaw_ofSame (s := s) (by simp) hs
  | occurs e => exact listLaw_ofSame (s := s) (by simp) hs
  | supersedes | rewrites | shuts | opensUnbound | grows | joins => exact hs

theorem bindAppended_keeps_listLaw (hs : listLaw s) : listLaw (bindAppended s).2 := by
  rcases bindAppended_cases s with ⟨d, e, rest, -, -, hentries, hbind⟩ | ⟨-, hbind⟩ <;> rw [hbind]
  · exact listLaw_ofSame (by simp [bindLate]) (listLaw_tail hentries hs)
  · exact hs

end

/-! The drawing within the list it came from (R51, R59, R60, R71). -/

/-- The list and the drawing are lawful. -/
def DrawingsHold (s : State) : Prop := listLaw s ∧ drawingLaw s

section
variable {s t : State}

theorem DrawingsHold.ofSame (hs : DrawingsHold s) (hlist : t.list = s.list)
    (hdrawing : t.matching.drawing = s.matching.drawing) : DrawingsHold t := by
  unfold DrawingsHold listLaw drawingLaw
  rw [hlist, hdrawing]
  exact hs

theorem listLaw_head {e : Entry} {rest : List Entry} (h : s.list.entries = e :: rest) (hs : listLaw s) : entryLaw e :=
  hs.2.1 e (by simp [h])

theorem FrameStep.keeps_drawings (h : FrameStep s t) (hs : DrawingsHold s) : DrawingsHold t := by
  have hlist := h.keeps_listLaw hs.1
  cases h with
  | opensBound e rest serial hentries =>
    refine ⟨hlist, fun d hd => ?_⟩
    obtain rfl := Option.mem_some_iff.mp hd
    refine ⟨le_rfl, Nat.le_of_ble_eq_true rfl, fun x hx => ?_⟩
    obtain rfl := Option.mem_some_iff.mp hx
    have hentry := listLaw_head hentries hs.1
    exact ⟨hentry.2.2.2.2.1, hentry⟩
  | opensUnbound serial =>
    refine ⟨hlist, fun d hd => ?_⟩
    obtain rfl := Option.mem_some_iff.mp hd
    exact ⟨le_rfl, Nat.le_of_ble_eq_true rfl, by simp⟩
  | grows d hopen hmore =>
    refine ⟨hlist, fun d' hd => ?_⟩
    obtain rfl := Option.mem_some_iff.mp hd
    obtain ⟨_, _, hbound⟩ := hs.2 d hopen
    rcases hentry : d.entry with _ | e
    · simp only [sheetsRemaining, hentry, decide_eq_true_eq] at hmore
      exact ⟨Nat.succ_le_succ (Nat.zero_le _), hmore, by simp⟩
    · simp only [sheetsRemaining, hentry, decide_eq_true_eq] at hmore
      obtain ⟨-, hlaw⟩ := hbound e hentry
      refine ⟨Nat.succ_le_succ (Nat.zero_le _), (Nat.succ_le_of_lt hmore).trans hlaw.2.2.2.2.2, fun x hx => ?_⟩
      obtain rfl := Option.mem_some_iff.mp hx
      exact ⟨hmore, hlaw⟩
  | shuts recent => exact ⟨hlist, fun d hd => nomatch hd⟩
  | leaves x y rest => exact hs.ofSame (by simp) (by simp)
  | occurs e => exact hs.ofSame (by simp) (by simp)
  | supersedes | rewrites | joins => exact hs

theorem FrameRun.keeps_drawings (h : FrameRun s t) (hs : DrawingsHold s) : DrawingsHold t :=
  h.keeps (fun _ _ hstep => hstep.keeps_drawings) hs

theorem FilmRun.keeps_drawings (h : FilmRun s t) (hs : DrawingsHold s) : DrawingsHold t :=
  h.keeps_work (fun _ _ hstep => hstep.keeps_drawings) (fun _ _ hwork hu => hu.ofSame hwork.list hwork.drawing) hs

/-- The late binding counts no more sheets than the entry has (R88). -/
theorem DrawingsHold.bindAppended (hs : DrawingsHold s) : DrawingsHold (bindAppended s).2 := by
  refine ⟨bindAppended_keeps_listLaw hs.1, ?_⟩
  rcases bindAppended_cases s with ⟨d, e, rest, hopen, -, hentries, hbind⟩ | ⟨-, hbind⟩ <;> rw [hbind]
  · intro d' hd
    obtain rfl : { d with entry := some e, sheetsSeen := min d.sheetsSeen e.sheetCount } = d' := by
      simpa [bindLate] using hd
    obtain ⟨hone, hmany, -⟩ := hs.2 d hopen
    have hentry := listLaw_head hentries hs.1
    refine ⟨le_min hone hentry.2.2.2.2.1, (min_le_left _ _).trans hmany, fun x hx => ?_⟩
    obtain rfl := Option.mem_some_iff.mp hx
    exact ⟨min_le_right _ _, hentry⟩
  · exact hs.2

/-- The laws of the list and of the drawing, the second over the first, through a move that is no load of the list. -/
def KeepsDrawings (s t : State) : Prop := (listLaw s → listLaw t) ∧ (DrawingsHold s → DrawingsHold t)

theorem KeepsDrawings.ofSame (hlist : t.list = s.list) (hdrawing : t.matching.drawing = s.matching.drawing) :
    KeepsDrawings s t :=
  ⟨listLaw_ofSame hlist, fun hs => hs.ofSame hlist hdrawing⟩

theorem KeepsDrawings.ofFilmRun (h : FilmRun s t) : KeepsDrawings s t :=
  ⟨h.keeps_work (fun _ _ hstep => hstep.keeps_listLaw) (fun _ _ hwork => listLaw_ofSame hwork.list), h.keeps_drawings⟩

theorem Acts.keepsDrawings (h : Acts s t) : KeepsDrawings s t := by
  cases h with
  | appends operand first es happends =>
    refine ⟨fun hs => ?_, fun hs => ?_⟩
    · exact listLaw_ofSame (by simp [reportList]) (bindAppended_keeps_listLaw (listLaw_joinEntries happends hs))
    · have hjoined : DrawingsHold (joinEntries first es s) := ⟨listLaw_joinEntries happends hs.1, hs.2⟩
      exact hjoined.bindAppended.ofSame (by simp [reportList]) (by simp [reportList])
  | clearsList =>
    have hempty : listLaw { s with list.entries := [], list.expected := none } :=
      ⟨Nat.zero_le 256, by simp, fun _ => rfl, by simp⟩
    exact ⟨fun _ => hempty, fun hs => ⟨hempty, hs.2⟩⟩
  | flushes => exact .ofFilmRun (flushCommand_run s)
  | reissues i => exact .ofSame (by simp [reissue, endHold]) (by simp [reissue, endHold])
  | drops i => exact .ofSame (by simp [dropJammed, endHold]) (by simp [dropJammed, endHold])
  | tableRepaired | masks | arms => exact .ofSame (by simp) (by simp)
  | nothing | joins | converts | passes | table | settings | punch | fields | clearsCounters | clearsEvents =>
    exact .ofSame rfl rfl

theorem BlockMove.keepsDrawings (h : BlockMove s t) : KeepsDrawings s t := by
  cases h with
  | same hsame => exact .ofSame hsame.list (by rw [hsame.matching])
  | powers pins =>
    have hempty : listLaw (powerOnState pins s) := ⟨Nat.zero_le 256, by simp [powerOnState, State.powerOn, powerOnList],
      fun _ => rfl, by simp [powerOnState, State.powerOn, powerOnList]⟩
    exact ⟨fun _ => hempty, fun _ => ⟨hempty, fun d hd => nomatch hd⟩⟩
  | resets mode => exact ⟨id, fun hs => ⟨hs.1, fun d hd => nomatch hd⟩⟩
  | acts hacts => exact hacts.keepsDrawings
  | films _ hfilm => exact .ofFilmRun hfilm.run
  | flushExpires => exact .ofFilmRun (expireFlush_run s)
  | jams i => exact .ofSame (by simp) (by simp)
  | sends i rest => exact .ofSame (by simp [takeInstruction]) (by simp [takeInstruction])
  | reports | countsDown => exact .ofSame rfl rfl

end

end Sys2Proof.Machine

namespace Sys2Proof.Proofs

open Sys2Proof.Machine

/-- Settles O58: slots leave from the head and join behind lower numbers; every operation that touches the held slots, the drawing
or the room ends with release; the list loses its head or gains consecutive numbers; a drawing opens, grows and binds within its
entry. -/
theorem stepKeepsMatching : Obligations.StepKeepsMatching := by
  intro s t h
  refine ⟨step_keeps_of_moves (fun _ _ hmove => hmove.keeps_holdLaw) h,
    step_keeps_of_moves (fun _ _ hmove => hmove.keeps_releasedLaw) h,
    step_keeps_of_moves (fun _ _ hmove => hmove.keepsDrawings.1) h, fun hlist hdrawing => ?_⟩
  exact (step_keeps_of_moves (fun _ _ hmove => hmove.keepsDrawings.2) h ⟨hlist, hdrawing⟩).2

end Sys2Proof.Proofs
end

section
/-! The frame balance (R92, R100, R196): every accepted frame is a card, a waste or held, but for counters that saturate or are
cleared, with the obligation O60 assembled from it. -/

namespace Sys2Proof.Machine

open Sys2Proof.Safety

/-- Frames accepted are the cards, the wastes and the slots held. -/
def Balanced (s : State) : Prop :=
  s.command.counters.framesAccepted =
    s.command.counters.cards + s.command.counters.wastes + s.matching.hold.length

/-- One of the three counters of the balance stands at its end (R196). -/
def Saturated (s : State) : Prop :=
  65535 ≤ s.command.counters.framesAccepted ∨ 65535 ≤ s.command.counters.cards ∨ 65535 ≤ s.command.counters.wastes

/-- The balance holds as far as the counters can tell. -/
def Accounted (s : State) : Prop := Balanced s ∨ Saturated s

/-- After a clear only slots that were held, at most `n`, are counted or held. -/
def ClearedOf (n : Nat) (s : State) : Prop :=
  (s.command.counters.framesAccepted = 0 ∧
    s.command.counters.cards + s.command.counters.wastes + s.matching.hold.length ≤ n) ∨ Saturated s

section
variable {s t : State}

theorem Accounted.ofSame (h : SameWork s t) (hs : Accounted s) : Accounted t := by
  unfold Accounted Balanced Saturated
  rw [h.accepted, h.cards, h.wastes, h.hold]
  exact hs

theorem ClearedOf.ofSame {n : Nat} (h : SameWork s t) (hs : ClearedOf n s) : ClearedOf n t := by
  unfold ClearedOf Saturated
  rw [h.accepted, h.cards, h.wastes, h.hold]
  exact hs

theorem accounted_of_empty (hhold : t.matching.hold = []) (hcounters : t.command.counters = zeroCounters) : Accounted t := by
  simp [Accounted, Balanced, hhold, hcounters, zeroCounters]

/-- A slot that leaves is one fewer held and one more card or waste (R100). -/
theorem emitSlot_counts {x : Slot} {rest : List Slot} (hhold : s.matching.hold = x :: rest) (y : Slot) :
    (emitSlot y { s with matching.hold := rest }).command.counters.framesAccepted = s.command.counters.framesAccepted ∧
    (emitSlot y { s with matching.hold := rest }).matching.hold.length + 1 = s.matching.hold.length ∧
    (((emitSlot y { s with matching.hold := rest }).command.counters.cards = saturate s.command.counters.cards ∧
        (emitSlot y { s with matching.hold := rest }).command.counters.wastes = s.command.counters.wastes) ∨
      ((emitSlot y { s with matching.hold := rest }).command.counters.cards = s.command.counters.cards ∧
        (emitSlot y { s with matching.hold := rest }).command.counters.wastes = saturate s.command.counters.wastes)) := by
  unfold emitSlot renderCounter
  cases y.body with
  | waste reason => simp [advanceCounter, hhold]
  | card b g => simp [advanceCounter, hhold]

theorem saturate_cases (n : Nat) : (saturate n = n + 1) ∨ (65535 ≤ n ∧ saturate n = n) := by
  unfold saturate
  split_ifs
  · exact .inl rfl
  · exact .inr ⟨by omega, rfl⟩

theorem Accounted.emit {x : Slot} {rest : List Slot} (hhold : s.matching.hold = x :: rest) (y : Slot) (hs : Accounted s) :
    Accounted (emitSlot y { s with matching.hold := rest }) := by
  obtain ⟨haccepted, hheld, hcount⟩ := emitSlot_counts hhold y
  have hcards := saturate_cases s.command.counters.cards
  have hwastes := saturate_cases s.command.counters.wastes
  unfold Accounted Balanced Saturated at hs ⊢
  omega

theorem ClearedOf.emit {n : Nat} {x : Slot} {rest : List Slot} (hhold : s.matching.hold = x :: rest) (y : Slot)
    (hs : ClearedOf n s) : ClearedOf n (emitSlot y { s with matching.hold := rest }) := by
  obtain ⟨haccepted, hheld, hcount⟩ := emitSlot_counts hhold y
  have hcards := saturate_cases s.command.counters.cards
  have hwastes := saturate_cases s.command.counters.wastes
  unfold ClearedOf Saturated at hs ⊢
  omega

theorem FrameStep.keeps_accounted (h : FrameStep s t) (hs : Accounted s) : Accounted t := by
  cases h with
  | leaves x y rest hhold => exact hs.emit hhold y
  | joins slot =>
    have haccepted := saturate_cases s.command.counters.framesAccepted
    unfold Accounted Balanced Saturated at hs ⊢
    simp only [advance_command_counters, advanceCounter, advance_matching, List.length_append, List.length_singleton]
    omega
  | rewrites hold hnumbers =>
    have hlength := congrArg List.length hnumbers
    rw [numbersOf_length, numbersOf_length] at hlength
    unfold Accounted Balanced Saturated at hs ⊢
    simpa only [hlength] using hs
  | occurs e => exact hs.ofSame (.ofBlocks (.occur e s))
  | supersedes => exact hs.ofSame (.ofBlocks (.advance (by decide) s))
  | shuts | opensBound | opensUnbound | grows => exact hs

theorem FrameRun.keeps_accounted (h : FrameRun s t) (hs : Accounted s) : Accounted t :=
  h.keeps (fun _ _ hstep => hstep.keeps_accounted) hs

theorem FilmRun.keeps_accounted (h : FilmRun s t) (hs : Accounted s) : Accounted t :=
  h.keeps_work (fun _ _ hstep => hstep.keeps_accounted) (fun _ _ hwork hu => hu.ofSame hwork) hs

theorem bindAppended_keeps_accounted (hs : Accounted s) : Accounted (bindAppended s).2 := by
  rcases bindAppended_cases s with ⟨d, e, rest, -, -, -, hbind⟩ | ⟨-, hbind⟩ <;> rw [hbind]
  · exact (release_frameRun _).keeps_accounted (by simpa [Accounted, Balanced, Saturated] using hs)
  · exact hs

/-! A command keeps the balance, or clears the counters. -/

/-- The counters have been cleared, and the held slots are those of before. -/
def Clears (s t : State) : Prop :=
  t.matching.hold = s.matching.hold ∧ t.command.counters.framesAccepted = 0 ∧ t.command.counters.cards = 0 ∧
    t.command.counters.wastes = 0

/-- The balance is kept, or the counters are cleared. -/
def KeepsOrClears (s t : State) : Prop := (Accounted s → Accounted t) ∨ Clears s t

theorem KeepsOrClears.after (h : SameWork s t) {u : State} (k : KeepsOrClears t u) : KeepsOrClears s u := by
  rcases k with hkeep | ⟨hhold, hcounters⟩
  · exact .inl fun hs => hkeep (hs.ofSame h)
  · exact .inr ⟨hhold.trans h.hold, hcounters⟩

theorem KeepsOrClears.before {u : State} (h : KeepsOrClears s t) (k : SameWork t u) : KeepsOrClears s u := by
  rcases h with hkeep | ⟨hhold, haccepted, hcards, hwastes⟩
  · exact .inl fun hs => (hkeep hs).ofSame k
  · exact .inr ⟨k.hold.trans hhold, k.accepted.trans haccepted, k.cards.trans hcards, k.wastes.trans hwastes⟩

theorem KeepsOrClears.ofWork (h : SameWork s t) : KeepsOrClears s t := .inl fun hs => hs.ofSame h

theorem KeepsOrClears.ofBlocks (h : SameBlocks s t) : KeepsOrClears s t := .ofWork (.ofBlocks h)

theorem Acts.keepsOrClears (h : Acts s t) : KeepsOrClears s t := by
  cases h with
  | clearsCounters => exact .inr ⟨rfl, rfl, rfl, rfl⟩
  | appends operand first es =>
    refine .inl fun hs => Accounted.ofSame (.requestHalt (by decide) _ _) (bindAppended_keeps_accounted ?_)
    exact hs
  | flushes => exact .inl (flushCommand_run s).keeps_accounted
  | reissues i =>
    refine .inl fun hs => (release_frameRun _).keeps_accounted ?_
    simpa [Accounted, Balanced, Saturated, endHold] using hs
  | drops i => exact .inl fun hs => by simpa [Accounted, Balanced, Saturated, dropJammed, endHold, advanceCounter] using hs
  | tableRepaired | masks | arms => exact .inl fun hs => by simpa [Accounted, Balanced, Saturated] using hs
  | nothing | joins | converts | passes | table | settings | punch | fields | clearsList | clearsEvents => exact .inl id

theorem Executes.keepsOrClears (h : Executes s t) : KeepsOrClears s t := by
  cases h with
  | answers src code status data hacts => exact hacts.keepsOrClears.before (.ofBlocks (.reply src code status data _))
  | resets src code status data => exact .inl fun _ => accounted_of_empty rfl rfl
  | leaves src code status data => exact .inl fun _ => accounted_of_empty rfl rfl

theorem Takes.keepsOrClears (h : Takes s t) : KeepsOrClears s t := by
  cases h with
  | ignored => exact .inl id
  | dropped => exact .ofBlocks (.advance (by decide) s)
  | executed _ hexec => exact hexec.keepsOrClears.after (.ofBlocks (.ofLine s _))

/-- A mounter report touches neither slots nor the counters of the balance (R126 to R130). -/
theorem takeDone_keepsOrClears (seq : Nat) (jammed : Bool) (s : State) : KeepsOrClears s (takeDone seq jammed s) := by
  have hreported (es : List InFlight) : SameWork s { s with output.inFlight := es } := ⟨rfl, rfl, rfl, rfl, rfl, rfl, rfl, rfl, rfl⟩
  have hjam (i : Instruction) (u : State) : KeepsOrClears u (takeJam i u) := by
    unfold takeJam
    split
    · refine KeepsOrClears.before (.after (t := { u with output.jam := some i, output.held := true }) ?_
        (.ofWork (.requestHalt (by decide) true _))) (.ofBlocks (.occur .jam _))
      exact ⟨rfl, rfl, rfl, rfl, rfl, rfl, rfl, rfl, rfl⟩
    · exact .ofBlocks ((SameBlocks.advance (by decide) u).trans (.occur .jam _))
  unfold takeDone
  split
  · exact .ofBlocks (.strayDone s)
  · rename_i e newer _
    dsimp only
    split_ifs
    · exact .after (hreported newer) (.after (.ofBlocks (.writeOffEach _ _)) (hjam _ _))
    · exact .after (hreported newer) (.ofBlocks (.writeOffEach _ _))

theorem Sorts.keepsOrClears (h : Sorts s t) : KeepsOrClears s t := by
  cases h with
  | discards => exact .inl id
  | forwards r => exact .ofBlocks (.forwardRecord r s)
  | rolls r n => exact .ofBlocks (.takeRoll r n s)
  | takes htakes => exact htakes.keepsOrClears
  | takesOn r htakes => exact htakes.keepsOrClears.before (.ofBlocks (.forwardRecord r _))
  | reports seq jammed => exact takeDone_keepsOrClears seq jammed s
  | strays => exact .ofBlocks (.strayDone s)
  | films _ hfilm => exact .inl hfilm.run.keeps_accounted

theorem Effect.keepsOrClears (h : Effect s t) : KeepsOrClears s t := by
  cases h with
  | nothing => exact .inl id
  | powers pins => exact .inl fun _ => accounted_of_empty rfl rfl
  | nrstFalls => exact .inl id
  | straps pins => exact .ofBlocks (.strapMoves pins s)
  | hunts => exact .ofBlocks (.huntGood s)
  | huntsBad => exact .inl id
  | slips => exact .ofBlocks (.lockedBad s)
  | sorts _ hsorts => exact hsorts.keepsOrClears.after (.ofBlocks (.ofLine s _))
  | flushExpires => exact .inl (expireFlush_run s).keeps_accounted
  | deadlineExpires seq =>
    unfold expireDeadline
    split_ifs
    · refine .after ?_ (.ofBlocks ((SameBlocks.advance (by decide) _).trans (.occur .doneTimeout _)))
      exact ⟨rfl, rfl, rfl, rfl, rfl, rfl, rfl, rfl, rfl⟩
    · exact .inl id
  | portFrees => exact .ofBlocks (.finishSending s)
  | pathStores =>
    unfold pathToStored
    split_ifs <;> exact .inl id
  | drainEnds =>
    unfold drainEnd
    split_ifs <;> exact .inl id

/-- The choice of the arbiter lets slots leave, and no frame come (R123). -/
theorem choose_keeps {P : State → Prop} (hsame : ∀ u v, SameWork u v → P u → P v)
    (hqueue : ∀ u i rest, P u → P { u with output.queue := rest, output.inFlight := u.output.inFlight ++ [i] })
    (hhalt : ∀ u b, P u → P (requestHalt .output b u))
    (hleave : ∀ u x y rest, u.matching.hold = x :: rest → P u → P (emitSlot y { u with matching.hold := rest }))
    (hs : P s) : P (choose s) := by
  rcases choose_cases s with h | ⟨-, -, ⟨c, rest, -, h⟩ | ⟨i, rest, -, -, -, -, h⟩ | ⟨r, rest, -, -, -, h⟩⟩ <;> rw [h]
  · exact hs
  · exact hsame _ _ (.ofBlocks (.ofLine s _)) hs
  · have htested (u : State) (hu : P u) : P (outputTest u) := by
      rcases outputTest_cases u with h | ⟨b, h⟩ <;> rw [h]
      · exact hu
      · exact hhalt u b hu
    refine release_induction (fun u x rest hhold _ _ hu => ?_) _ (htested _ (hqueue _ _ _ ?_))
    · rw [leaveHead, hhold]
      exact hleave u x x rest hhold hu
    · exact hsame _ _ (.ofBlocks (.ofLine s _)) hs
  · exact hsame _ _ (.ofBlocks (.ofLine s _)) hs

theorem choose_keeps_accounted (hs : Accounted s) : Accounted (choose s) :=
  choose_keeps (fun _ _ h hu => hu.ofSame h) (fun _ _ _ hu => hu)
    (fun _ _ hu => by simpa [Accounted, Balanced, Saturated] using hu) (fun _ _ y _ hhold hu => hu.emit hhold y) hs

theorem choose_keeps_clearedOf {n : Nat} (hs : ClearedOf n s) : ClearedOf n (choose s) :=
  choose_keeps (fun _ _ h hu => hu.ofSame h) (fun _ _ _ hu => hu)
    (fun _ _ hu => by simpa [ClearedOf, Saturated] using hu) (fun _ _ y _ hhold hu => hu.emit hhold y) hs

theorem tick_accounted (hs : Balanced s) : Balanced (tick s) := by
  unfold tick
  dsimp only
  split <;> exact hs

/-- A step keeps the balance, or what is counted and held after a clear was held before it. -/
theorem step_accounts (h : step s = .next t) (hs : Balanced s) : Accounted t ∨ ClearedOf s.matching.hold.length t := by
  rcases step_cases h with rfl | ⟨rest, u, heffect, rfl⟩
  · exact .inl (.inl (tick_accounted hs))
  · rcases heffect.keepsOrClears with hkeep | ⟨hhold, haccepted, hcards, hwastes⟩
    · exact .inl (choose_keeps_accounted (hkeep (.inl hs)))
    · exact .inr (choose_keeps_clearedOf (.inl ⟨haccepted, by simp [hcards, hwastes, hhold]⟩))

end

end Sys2Proof.Machine

namespace Sys2Proof.Proofs

open Sys2Proof.Machine

/-- Settles O60: a slot joins with a frame accepted and leaves with a card or a waste; only a clear of the counters breaks the
balance, and no frame is accepted behind it in the same step. -/
theorem stepKeepsFrameCount : Obligations.StepKeepsFrameCount := by
  intro s t h balanced hs
  have hstep : Accounted t ∨ ClearedOf s.matching.hold.length t := step_accounts h hs
  change Balanced t ∨ _
  unfold Accounted ClearedOf Saturated at hstep
  tauto

end Sys2Proof.Proofs
end

section
/-! The tracker and the flush timer (R1, R7, R9 to R13, R16, R21 to R24, R94): what film traffic makes of the tracker, with the
obligation O59 assembled from it. -/

namespace Sys2Proof.Machine

open Sys2Proof.Safety

/-! A tracker that is on a reel. -/

/-- The tracker's law outside IDLE. -/
structure OnReel (t : FrameTracker) : Prop where
  notIdle : t.state ≠ .idle
  reel : t.reel.isSome = true
  mark : t.lastMark.isSome = true
  assembly : t.assembly.isSome = true → t.state = .acquire ∨ t.state = .tracking
  few : t.buffer.length ≤ 2
  buffer : t.state ≠ .acquire → t.buffer = []
  numbers : ∀ f ∈ t.buffer, 1 ≤ f.number ∧ f.number ≤ t.frameCounter
  count : t.state = .acquire → t.closeCount < 64
  counter : t.frameCounter ≤ 65535

/-- A tracker between two frames that hands over all it held. -/
structure HandsOver (t : FrameTracker) : Prop where
  notIdle : t.state ≠ .idle
  reel : t.reel.isSome = true
  mark : t.lastMark.isSome = true
  assembly : t.assembly = none
  buffer : t.buffer = []
  count : t.state = .acquire → t.closeCount < 64
  counter : t.frameCounter ≤ 65535

/-- In IDLE nothing is in assembly and nothing is buffered. -/
structure OffReel (t : FrameTracker) : Prop where
  idle : t.state = .idle
  assembly : t.assembly = none
  buffer : t.buffer = []
  counter : t.frameCounter ≤ 65535

theorem HandsOver.onReel {t : FrameTracker} (h : HandsOver t) : OnReel t :=
  ⟨h.notIdle, h.reel, h.mark, by simp [h.assembly], by simp [h.buffer], fun _ => h.buffer, by simp [h.buffer], h.count, h.counter⟩

theorem trackerLaw_iff (s : State) :
    trackerLaw s ↔ OnReel s.tracker ∨ (OffReel s.tracker ∧ s.matching.drawing = none) := by
  constructor
  · rintro ⟨hassembly, hfew, hbuffer, hnumbers, hloaded, hidle, hcount, hcounter⟩
    by_cases hstate : s.tracker.state = .idle
    · refine .inr ⟨⟨hstate, ?_, hbuffer (by rw [hstate]; decide), hcounter⟩, hidle hstate⟩
      rw [hstate] at hassembly
      simpa using hassembly
    · obtain ⟨hreel, hmark⟩ := hloaded hstate
      exact .inl ⟨hstate, hreel, hmark, hassembly, hfew, hbuffer, hnumbers, hcount, hcounter⟩
  · rintro (h | ⟨h, hdrawing⟩)
    · exact ⟨h.assembly, h.few, h.buffer, h.numbers, fun _ => ⟨h.reel, h.mark⟩, fun hidle => absurd hidle h.notIdle, h.count,
        h.counter⟩
    · exact ⟨by simp [h.assembly], by simp [h.buffer], fun _ => h.buffer, by simp [h.buffer], fun hne => absurd h.idle hne,
        fun _ => hdrawing, by simp [h.idle], h.counter⟩

/-! Hand-over. -/

section
variable {s t : State}

theorem takeLoss_handsOver (o : Occasion) {f : ClosedFrame} (hf : f.number ≤ 65535) (hs : HandsOver s.tracker) :
    HandsOver (takeLoss o f s).tracker := by
  have hlow : f.number - 1 ≤ 65535 := (Nat.sub_le _ _).trans hf
  cases o with
  | live =>
    simp only [takeLoss, requestHalt_tracker, loseFrame, noteLoss, advance_tracker, occur_tracker, emptyAcc_tracker]
    exact ⟨by simp, hs.reel, hs.mark, rfl, rfl, by simp, hlow⟩
  | reelChange =>
    simp only [takeLoss, noteLoss, advance_tracker, occur_tracker]
    exact ⟨hs.notIdle, hs.reel, hs.mark, hs.assembly, rfl, hs.count, hlow⟩
  | reversal | exhausted =>
    simp only [takeLoss, loseFrame, noteLoss, advance_tracker, occur_tracker, emptyAcc_tracker]
    exact ⟨hs.notIdle, hs.reel, hs.mark, rfl, rfl, fun _ => Nat.succ_pos 63, hlow⟩

theorem handOver_handsOver (o : Occasion) {fs : List ClosedFrame} (hfs : ∀ f ∈ fs, f.number ≤ 65535)
    (hs : HandsOver s.tracker) : HandsOver (handOver o fs s).tracker := by
  induction fs generalizing s with
  | nil => exact hs
  | cons f fs ih =>
    obtain ⟨hf, hfs⟩ := List.forall_mem_cons.mp hfs
    unfold handOver
    split
    · exact takeLoss_handsOver o hf hs
    · rename_i t htake
      have htracker := takeFrame_tracker f s t htake
      refine ih hfs ?_
      simp only [htracker]
      exact ⟨hs.notIdle, hs.reel, hs.mark, hs.assembly, hs.buffer, hs.count, hs.counter⟩

/-- A frame in hand and the buffer before it. -/
theorem numbers_le_of_onReel (hs : OnReel s.tracker) : ∀ f ∈ s.tracker.buffer, f.number ≤ 65535 :=
  fun f hf => (hs.numbers f hf).2.trans hs.counter

theorem numbers_asLeader {fs : List ClosedFrame} (h : ∀ f ∈ fs, f.number ≤ 65535) :
    ∀ f ∈ fs.map asLeader, f.number ≤ 65535 := by
  simpa [asLeader] using h

/-- The buffer goes out from a tracker with nothing in assembly (R24). -/
theorem flushBuffer_handsOver (o : Occasion) (hassembly : s.tracker.assembly = none) (hs : OnReel s.tracker) :
    HandsOver (flushBuffer o s).tracker :=
  handOver_handsOver o (numbers_asLeader (numbers_le_of_onReel hs))
    ⟨hs.notIdle, hs.reel, hs.mark, hassembly, rfl, hs.count, hs.counter⟩

/-- A frame that closed in ACQUIRE is handed over with the buffer or joins it (R21 to R23). -/
theorem acquire_onReel (o : Occasion) {f : ClosedFrame} (hstate : s.tracker.state = .acquire)
    (hassembly : s.tracker.assembly = none) (hnumber : 1 ≤ f.number ∧ f.number = s.tracker.frameCounter)
    (hs : OnReel s.tracker) : OnReel (acquire o f s).tracker ∧ (acquire o f s).tracker.assembly = none := by
  have hf : f.number ≤ 65535 := hnumber.2.trans_le hs.counter
  have hall : ∀ g ∈ s.tracker.buffer ++ [f], g.number ≤ 65535 :=
    List.forall_mem_append.mpr ⟨numbers_le_of_onReel hs, by simpa using hf⟩
  have ofHands {u : State} (h : HandsOver u.tracker) : OnReel u.tracker ∧ u.tracker.assembly = none := ⟨h.onReel, h.assembly⟩
  unfold acquire
  dsimp only
  split_ifs with hthird hlast hnormal
  · exact ofHands (handOver_handsOver o hall ⟨by simp, hs.reel, hs.mark, hassembly, rfl, by simp, hs.counter⟩)
  · refine ofHands (handOver_handsOver o hall ?_)
    exact ⟨by simp, by simpa using hs.reel, by simpa using hs.mark, by simpa using hassembly, rfl, by simp, by simpa using hs.counter⟩
  · refine ⟨⟨hs.notIdle, hs.reel, hs.mark, hs.assembly, ?_, fun hne => absurd hstate hne, ?_, fun _ => Nat.lt_of_not_le hlast,
      hs.counter⟩, hassembly⟩
    · simp only [hnormal, Bool.true_and, decide_eq_true_eq, not_le] at hthird
      simpa using hthird
    · exact List.forall_mem_append.mpr ⟨hs.numbers, by simpa using ⟨hnumber.1, hnumber.2.le⟩⟩
  · exact ofHands (handOver_handsOver o (numbers_asLeader hall)
      ⟨hs.notIdle, hs.reel, hs.mark, hassembly, rfl, fun _ => Nat.lt_of_not_le hlast, hs.counter⟩)

theorem exhaust_handsOver (o : Occasion) (hs : OnReel s.tracker) : HandsOver (exhaust o s).tracker := by
  have hfull (q : Occasion) : HandsOver (flushBuffer q { occur .reelFull (emptyAcc { s with tracker.assembly := none }) with
      tracker.state := .full }).tracker := by
    refine handOver_handsOver q ?_ ?_
    · simpa using numbers_asLeader (numbers_le_of_onReel hs)
    · exact ⟨by simp, by simpa using hs.reel, by simpa using hs.mark, by simp, rfl, by simp, by simpa using hs.counter⟩
  unfold exhaust
  dsimp only
  split <;> exact hfull _

/-- A frame closes on the reel and leaves nothing in assembly (R9, R16, R19, R21). -/
theorem closeAssembly_onReel (o : Occasion) (p : PitchSource) (hs : OnReel s.tracker) :
    OnReel (closeAssembly o p s).tracker ∧ (closeAssembly o p s).tracker.assembly = none := by
  unfold closeAssembly
  split
  · rename_i hnone
    exact ⟨hs, hnone⟩
  · rename_i a hsome
    have hstate := hs.assembly (by simp [hsome])
    split_ifs with hlast
    · exact ⟨(exhaust_handsOver o hs).onReel, (exhaust_handsOver o hs).assembly⟩
    · have hnumber : s.tracker.frameCounter + 1 ≤ 65535 := Nat.lt_of_not_le hlast
      have hclosed : OnReel (afterClose (closedFrame p a s) s).tracker := by
        rw [afterClose_tracker]
        exact ⟨hs.notIdle, hs.reel, hs.mark, by simp, hs.few, hs.buffer,
          fun f hf => ⟨(hs.numbers f hf).1, (hs.numbers f hf).2.trans (Nat.le_succ _)⟩, hs.count, hnumber⟩
      dsimp only [routeFrame]
      split_ifs with hacquire
      · refine acquire_onReel o hacquire (by simp [afterClose_tracker]) ?_ hclosed
        rw [afterClose_tracker]
        exact ⟨Nat.succ_pos _, rfl⟩
      · have hhands : HandsOver (handOver o [closedFrame p a s] (afterClose (closedFrame p a s) s)).tracker := by
          refine handOver_handsOver o (by simpa [closedFrame] using hnumber) ?_
          exact ⟨hclosed.notIdle, hclosed.reel, hclosed.mark, by simp [afterClose_tracker], hclosed.buffer hacquire,
            hclosed.count, hclosed.counter⟩
        exact ⟨hhands.onReel, hhands.assembly⟩

/-! MARK and SCAN. -/

theorem startFrame_onReel (m : MarkClass) (c : Nat) (hstate : s.tracker.state = .acquire ∨ s.tracker.state = .tracking)
    (hs : OnReel s.tracker) : OnReel (startFrame m c s).tracker :=
  ⟨hs.notIdle, hs.reel, hs.mark, fun _ => hstate, hs.few, hs.buffer, hs.numbers, hs.count, hs.counter⟩

theorem forwardMark_onReel (m : MarkClass) (c : Nat) (hs : OnReel s.tracker) : OnReel (forwardMark m c s).tracker := by
  have hclosed := (closeAssembly_onReel .live (.counters (c - markInForce s.tracker)) hs).1
  unfold forwardMark
  dsimp only
  split_ifs with hstate
  · exact startFrame_onReel m c hstate hclosed
  · exact hclosed

/-- A tracker that left ACQUIRE and TRACKING holds nothing back. -/
theorem onReel_rewound (hassembly : t.tracker.assembly = none) (hbuffer : t.tracker.buffer = []) (hs : OnReel t.tracker) :
    OnReel { t.tracker with state := .rewound } :=
  ⟨by simp, hs.reel, hs.mark, by simp [hassembly], hs.few, fun _ => hbuffer, hs.numbers, by simp, hs.counter⟩

theorem reverse_onReel (hs : OnReel s.tracker) : OnReel (reverse s).tracker := by
  have habandoned : OnReel (emptyAcc { s with tracker.assembly := none }).tracker :=
    ⟨hs.notIdle, hs.reel, hs.mark, by simp, hs.few, hs.buffer, hs.numbers, hs.count, hs.counter⟩
  unfold reverse
  dsimp only
  split_ifs with hacquire
  · have hflushed := flushBuffer_handsOver .reversal rfl habandoned
    rw [occur_tracker]
    exact onReel_rewound hflushed.assembly hflushed.buffer hflushed.onReel
  · rw [occur_tracker]
    exact onReel_rewound rfl (hs.buffer hacquire) habandoned

theorem rewoundMark_onReel (m : MarkClass) (c : Nat) (hstate : s.tracker.state = .rewound) (hs : OnReel s.tracker) :
    OnReel (rewoundMark m c s).tracker := by
  unfold rewoundMark
  split_ifs
  · rw [occur_tracker]
    exact hs
  · exact hs
  · refine startFrame_onReel m c (.inr rfl) ?_
    exact ⟨by simp, hs.reel, hs.mark, fun _ => .inr rfl, hs.few, fun _ => hs.buffer (by rw [hstate]; decide), hs.numbers, by simp,
      hs.counter⟩

theorem OnReel.assembly_none (hs : OnReel s.tracker) (hacquire : s.tracker.state ≠ .acquire)
    (htracking : s.tracker.state ≠ .tracking) : s.tracker.assembly = none := by
  by_contra hsome
  rcases hs.assembly (Option.isSome_iff_ne_none.mpr hsome) with h | h
  · exact hacquire h
  · exact htracking h

theorem lostMark_onReel (c : Nat) (hstate : s.tracker.state = .lost) (hs : OnReel s.tracker) :
    OnReel (lostMark c s).tracker := by
  unfold lostMark
  split_ifs
  · rw [requestHalt_tracker]
    dsimp only
    rw [occur_tracker]
    exact onReel_rewound (hs.assembly_none (by rw [hstate]; decide) (by rw [hstate]; decide))
      (hs.buffer (by rw [hstate]; decide)) hs
  · exact hs

theorem newMark_onReel (m : MarkClass) (c : Nat) (hs : OnReel s.tracker) : OnReel (newMark m c s).tracker := by
  unfold newMark
  split
  · split_ifs
    · exact reverse_onReel hs
    · exact forwardMark_onReel m c hs
  · split_ifs
    · exact reverse_onReel hs
    · exact forwardMark_onReel m c hs
  · rename_i hstate
    exact rewoundMark_onReel m c hstate hs
  · rename_i hstate
    exact lostMark_onReel c hstate hs
  · exact hs
  · exact hs

@[simp] theorem ignoreInIdle_tracker (s : State) : (ignoreInIdle s).tracker = s.tracker := by simp [ignoreInIdle]

@[simp] theorem ignoreInIdle_matching (s : State) : (ignoreInIdle s).matching = s.matching := by simp [ignoreInIdle]

theorem trackMark_onReel (m : MarkClass) (c : Nat) (hs : OnReel s.tracker) : OnReel (trackMark m c s).tracker := by
  unfold trackMark
  split
  · rw [ignoreInIdle_tracker]
    exact hs
  · exact hs
  · split_ifs
    · exact hs
    · have hnew := newMark_onReel m c hs
      exact ⟨hnew.notIdle, hnew.reel, rfl, hnew.assembly, hnew.few, hnew.buffer, hnew.numbers, hnew.count, hnew.counter⟩

theorem trackScan_onReel (payload : List Byte) (hs : OnReel s.tracker) : OnReel (trackScan payload s).tracker := by
  unfold trackScan takeLine
  split
  · rw [ignoreInIdle_tracker]
    exact hs
  · exact hs
  · split
    · exact hs
    · rename_i a hsome
      have hline (b : Assembly) : OnReel { s.tracker with assembly := some b } :=
        ⟨hs.notIdle, hs.reel, hs.mark, fun _ => hs.assembly (by simp [hsome]), hs.few, hs.buffer, hs.numbers, hs.count, hs.counter⟩
      split
      · exact hs
      · split_ifs
        · rw [takeSamples_tracker]
          exact hline _
        · rw [occur_tracker]
          exact hline _

/-! REEL, REEL_END and the flush timer's expiry. -/

/-- The end of a reel leaves nothing in assembly and nothing buffered, on a reel or in IDLE (R6). -/
theorem endReel_tracker (hs : OnReel s.tracker ∨ OffReel s.tracker) :
    (endReel s).tracker.assembly = none ∧ (endReel s).tracker.buffer = [] ∧ (endReel s).tracker.frameCounter ≤ 65535 := by
  unfold endReel
  rw [closeAndRelease_tracker]
  rcases hs with hs | hs
  · obtain ⟨hclosed, hassembly⟩ := closeAssembly_onReel .reelChange .estimated hs
    have hflushed := flushBuffer_handsOver .reelChange hassembly hclosed
    exact ⟨hflushed.assembly, hflushed.buffer, hflushed.counter⟩
  · have hkept : closeAssembly .reelChange .estimated s = s := by simp [closeAssembly, hs.assembly]
    simp [hkept, flushBuffer, hs.buffer, handOver, hs.assembly, hs.counter]

@[simp] theorem leaveReel_tracker (next : TrackerState) (wasLost : Bool) (s : State) :
    (leaveReel next wasLost s).tracker = { s.tracker with state := next } := by
  unfold leaveReel
  dsimp only
  split_ifs <;> simp

@[simp] theorem leaveReel_matching (next : TrackerState) (wasLost : Bool) (s : State) :
    (leaveReel next wasLost s).matching = s.matching := by
  unfold leaveReel
  dsimp only
  split_ifs <;> simp

@[simp] theorem settleTimer_matching_drawing (s : State) : (settleTimer s).matching.drawing = s.matching.drawing := by
  unfold settleTimer
  split_ifs <;> rfl

@[simp] theorem reportList_matching (s : State) : (reportList s).matching = s.matching := by simp [reportList]

theorem takeReel_onReel (r : ReelParams) (hs : OnReel s.tracker ∨ OffReel s.tracker) : OnReel (takeReel r s).tracker := by
  obtain ⟨hassembly, hbuffer, -⟩ := endReel_tracker hs
  simp only [takeReel, reportList_tracker, settleTimer_tracker, leaveReel_tracker, loadReel]
  exact ⟨by simp, rfl, rfl, by simp [hassembly], by simp [hbuffer], by simp, by simp [hbuffer], by simp, by simp⟩

theorem takeReelEnd_offReel (hstate : s.tracker.state ≠ .idle) (hs : OnReel s.tracker ∨ OffReel s.tracker) :
    OffReel (takeReelEnd s).tracker ∧ (takeReelEnd s).matching.drawing = none := by
  obtain ⟨hassembly, hbuffer, hcounter⟩ := endReel_tracker hs
  unfold takeReelEnd
  rw [if_neg hstate]
  refine ⟨?_, by simp [endReel]⟩
  simp only [reportList_tracker, settleTimer_tracker, leaveReel_tracker]
  exact ⟨rfl, hassembly, hbuffer, hcounter⟩

theorem flushAssembly_onReel (hs : OnReel s.tracker) : OnReel (flushAssembly s).tracker := by
  unfold flushAssembly
  split_ifs
  · exact (closeAssembly_onReel .live .estimated hs).1
  · exact hs

theorem expireFlush_keeps_trackerLaw (hs : trackerLaw s) : trackerLaw (expireFlush s) := by
  have hkept := (trackerLaw_iff s).mp hs
  unfold expireFlush
  split
  · exact hs
  · refine (trackerLaw_iff _).mpr ?_
    simp only [reportList_tracker, reportList_matching, release_tracker, release_matching_drawing, closeAndRelease_tracker,
      closeAndRelease_matching_drawing, and_true]
    refine hkept.imp flushAssembly_onReel fun ⟨hoff, _⟩ => ?_
    simpa [flushAssembly, hoff.idle] using hoff

theorem trackMark_of_idle (h : s.tracker.state = .idle) (m : MarkClass) (c : Nat) : trackMark m c s = ignoreInIdle s := by
  simp [trackMark, h]

theorem Film.keeps_trackerLaw (h : Film s t) (hs : trackerLaw s) : trackerLaw t := by
  have hkept := (trackerLaw_iff s).mp hs
  have heither : OnReel s.tracker ∨ OffReel s.tracker := hkept.imp_right And.left
  refine (trackerLaw_iff t).mpr ?_
  cases h with
  | reel r => exact .inl (takeReel_onReel r heither)
  | mark m c =>
    refine hkept.imp (fun hon => ?_) fun ⟨hoff, hdrawing⟩ => ?_
    · simpa [takeMark] using trackMark_onReel m c hon
    · simpa [takeMark, trackMark_of_idle hoff.idle, hdrawing] using hoff
  | scan payload =>
    obtain ⟨-, hmatching, -⟩ := trackScan_frame payload s
    refine hkept.imp (fun hon => ?_) fun ⟨hoff, hdrawing⟩ => ?_
    · simpa [takeScan] using trackScan_onReel payload hon
    · simpa [takeScan, hmatching, hdrawing, trackScan, hoff.idle] using hoff
  | reelEnd =>
    by_cases hidle : s.tracker.state = .idle
    · simpa [takeReelEnd, hidle] using hkept
    · exact .inr (takeReelEnd_offReel hidle heither)

/-! The other moves. -/

theorem trackerLaw_ofSame (hs : trackerLaw s) (htracker : t.tracker = s.tracker)
    (hdrawing : s.matching.drawing = none → t.matching.drawing = none) : trackerLaw t := by
  rw [trackerLaw_iff] at hs ⊢
  rw [htracker]
  exact hs.imp_right fun ⟨hoff, hnone⟩ => ⟨hoff, hdrawing hnone⟩

theorem bindAppended_tracker_drawing (s : State) :
    (bindAppended s).2.tracker = s.tracker ∧
    (bindAppended s).2.matching.drawing.isSome = s.matching.drawing.isSome ∧
    (bindAppended s).2.matching.flushTimer = s.matching.flushTimer := by
  rcases bindAppended_cases s with ⟨d, e, rest, hopen, -, -, hbind⟩ | ⟨-, hbind⟩ <;> rw [hbind]
  · simp [bindLate, hopen]
  · exact ⟨rfl, rfl, rfl⟩

theorem Acts.keeps_trackerLaw (h : Acts s t) (hs : trackerLaw s) : trackerLaw t := by
  cases h with
  | appends operand first es =>
    obtain ⟨htracker, hdrawing, -⟩ := bindAppended_tracker_drawing (joinEntries first es s)
    refine trackerLaw_ofSame hs (by rw [reportList_tracker, htracker]; rfl) fun hnone => ?_
    rw [← Option.isNone_iff_eq_none, ← Option.not_isSome, reportList_matching, hdrawing]
    simp [joinEntries, hnone]
  | flushes => exact trackerLaw_ofSame hs (by simp) (by simp)
  | reissues i => exact trackerLaw_ofSame hs (by simp [reissue, endHold]) (by simp [reissue, endHold])
  | drops i => exact trackerLaw_ofSame hs (by simp [dropJammed, endHold]) (by simp [dropJammed, endHold])
  | tableRepaired | masks | arms => exact trackerLaw_ofSame hs (by simp) (by simp)
  | nothing | joins | converts | passes | table | settings | punch | fields | clearsList | clearsCounters | clearsEvents =>
    exact trackerLaw_ofSame hs rfl id

theorem trackerLaw_powerOn (htracker : t.tracker = powerOnTracker) (hdrawing : t.matching.drawing = none) : trackerLaw t := by
  refine (trackerLaw_iff t).mpr (.inr ⟨?_, hdrawing⟩)
  rw [htracker]
  exact ⟨rfl, rfl, rfl, Nat.zero_le _⟩

theorem BlockMove.keeps_trackerLaw (h : BlockMove s t) (hs : trackerLaw s) : trackerLaw t := by
  cases h with
  | same hsame => exact trackerLaw_ofSame hs hsame.tracker (by rw [hsame.matching]; exact id)
  | powers pins => exact trackerLaw_powerOn rfl rfl
  | acts hacts => exact hacts.keeps_trackerLaw hs
  | resets mode => exact trackerLaw_powerOn rfl rfl
  | films _ hfilm => exact hfilm.keeps_trackerLaw hs
  | flushExpires => exact expireFlush_keeps_trackerLaw hs
  | jams i => exact trackerLaw_ofSame hs (by simp) (by simp)
  | sends i rest => exact trackerLaw_ofSame hs (by simp [takeInstruction]) (by simp [takeInstruction])
  | reports | countsDown => exact trackerLaw_ofSame hs rfl id

end

/-! The flush timer runs only with something to wait for (R94). -/

section
variable {s t : State}

/-- There is something to wait for: a frame in assembly or an open drawing. -/
def Awaits (s : State) : Prop := s.tracker.assembly.isSome = true ∨ s.matching.drawing.isSome = true

theorem timerNeeded_iff (s : State) : timerNeeded s = true ↔ Awaits s := by
  simp [timerNeeded, Awaits]

theorem restartTimer_awaits (h : (restartTimer s).matching.flushTimer ≠ none) : Awaits s := by
  unfold restartTimer at h
  split_ifs at h with hneeded
  · rw [Bool.and_eq_true] at hneeded
    exact (timerNeeded_iff s).mp hneeded.1
  · exact absurd rfl h

theorem settleTimer_awaits (h : (settleTimer s).matching.flushTimer ≠ none) :
    Awaits s ∧ s.matching.flushTimer ≠ none := by
  unfold settleTimer at h
  split_ifs at h with hneeded
  · exact ⟨(timerNeeded_iff s).mp hneeded, h⟩
  · exact absurd rfl h

/-- The flush timer runs only while there is something to wait for. -/
def TimerAwaits (s : State) : Prop := s.matching.flushTimer ≠ none → Awaits s

theorem TimerAwaits.restart (s : State) : TimerAwaits (reportList (restartTimer s)) := by
  intro h
  rw [reportList_matching] at h
  simpa [Awaits] using restartTimer_awaits h

theorem TimerAwaits.settle (s : State) : TimerAwaits (reportList (settleTimer s)) := by
  intro h
  rw [reportList_matching] at h
  simpa [Awaits] using (settleTimer_awaits h).1

theorem Film.timerAwaits (h : Film s t) (hs : TimerAwaits s) : TimerAwaits t := by
  cases h with
  | reel r => exact .settle _
  | mark m c => exact .restart _
  | scan payload =>
    intro h
    have hawaits := restartTimer_awaits h
    simpa [Awaits, takeScan] using hawaits
  | reelEnd =>
    unfold takeReelEnd
    split_ifs
    · simpa [TimerAwaits, Awaits] using hs
    · exact .settle _

theorem timerLaw_ofSame (hs : timerLaw s) (hmode : t.line.mode = s.line.mode) (htracker : t.tracker = s.tracker)
    (hdrawing : t.matching.drawing.isSome = s.matching.drawing.isSome)
    (htimer : t.matching.flushTimer = s.matching.flushTimer) : timerLaw t := by
  unfold timerLaw
  rw [hmode, htracker, hdrawing, htimer]
  exact hs

theorem Acts.keeps_timerLaw (h : Acts s t) (hs : timerLaw s) : timerLaw t := by
  cases h with
  | joins hbypass =>
    intro hruns
    have hconvert := (hs hruns).1
    rw [hbypass] at hconvert
    cases hconvert
  | converts => exact fun hruns => ⟨rfl, (hs hruns).2⟩
  | passes => exact fun hruns => absurd rfl hruns
  | appends operand first es =>
    obtain ⟨htracker, hdrawing, htimer⟩ := bindAppended_tracker_drawing (joinEntries first es s)
    exact timerLaw_ofSame hs (FilmFrame.appended first es s).mode (by rw [reportList_tracker, htracker]; rfl)
      (by rw [reportList_matching, hdrawing]; rfl) (by rw [reportList_matching, htimer]; rfl)
  | flushes =>
    intro hruns
    have hmode := (FilmFrame.ofFilmRun (flushCommand_run s)).mode
    have hawaits := TimerAwaits.settle _ hruns
    rw [reportList_matching] at hruns
    have hbefore : s.matching.flushTimer ≠ none := by
      have hclosed := (settleTimer_awaits hruns).2
      unfold closeAndRelease at hclosed
      split at hclosed
      · exact hclosed
      · simpa using hclosed
    exact ⟨hmode.trans (hs hbefore).1, hawaits⟩
  | reissues i => exact timerLaw_ofSame hs (by simp [reissue, endHold]) (by simp [reissue, endHold]) (by simp [reissue, endHold]) (by simp [reissue, endHold])
  | drops i => exact timerLaw_ofSame hs (by simp [dropJammed, endHold]) (by simp [dropJammed, endHold]) (by simp [dropJammed, endHold]) (by simp [dropJammed, endHold])
  | tableRepaired | masks | arms => exact timerLaw_ofSame hs (by simp) (by simp) (by simp) (by simp)
  | nothing | table | settings | punch | fields | clearsList | clearsCounters | clearsEvents =>
    exact timerLaw_ofSame hs rfl rfl rfl rfl

theorem expireFlush_keeps_timerLaw (hs : timerLaw s) : timerLaw (expireFlush s) := by
  unfold expireFlush
  split
  · exact hs
  · intro hruns
    rw [reportList_matching] at hruns
    exact absurd rfl hruns

theorem BlockMove.keeps_timerLaw (h : BlockMove s t) (hs : timerLaw s) : timerLaw t := by
  cases h with
  | same hsame =>
    exact timerLaw_ofSame hs hsame.mode hsame.tracker (by rw [hsame.matching]) (by rw [hsame.matching])
  | powers pins => exact fun hruns => absurd rfl hruns
  | acts hacts => exact hacts.keeps_timerLaw hs
  | resets mode => exact fun hruns => absurd rfl hruns
  | films hmode hfilm =>
    intro hruns
    exact ⟨(FilmFrame.ofFilmRun hfilm.run).mode.trans hmode, hfilm.timerAwaits (fun h => (hs h).2) hruns⟩
  | flushExpires => exact expireFlush_keeps_timerLaw hs
  | jams i => exact timerLaw_ofSame hs (by simp) (by simp) (by simp) (by simp)
  | sends i rest =>
    exact timerLaw_ofSame hs (by simp [takeInstruction]) (by simp [takeInstruction]) (by simp [takeInstruction])
      (by simp [takeInstruction])
  | reports => exact timerLaw_ofSame hs rfl rfl rfl rfl
  | countsDown =>
    intro hruns
    exact hs (by simpa [countDown] using hruns)

end

end Sys2Proof.Machine

namespace Sys2Proof.Proofs

open Sys2Proof.Machine

/-- Settles O59: outside IDLE every operation of the tracker keeps it `OnReel`, a hand-over with nothing in assembly and nothing
buffered; the timer is set or settled last in every arrival that touches what it waits for. -/
theorem stepKeepsTracker : Obligations.StepKeepsTracker := by
  intro s t h
  exact ⟨step_keeps_of_moves (fun _ _ hmove => hmove.keeps_trackerLaw) h,
    step_keeps_of_moves (fun _ _ hmove => hmove.keeps_timerLaw) h⟩

end Sys2Proof.Proofs
end

section
/-! The machine and its line port (chapter 7): the queue of commands, the tick, the signals, alignment, sorting, roll call, the
line path and the arbiter, with the obligations O1 to O5, O7 to O10, O12, O13 and O54 assembled from them. -/

namespace Sys2Proof.Machine

open Sys2Proof.Safety

/-! No command touches what the machine itself keeps. -/

/-- The waiting commands and the count of open choices are as they were. -/
def SameQueue (s t : State) : Prop := t.pending = s.pending ∧ t.openChoices = s.openChoices

section
variable {s t u : State}

theorem SameQueue.trans (h : SameQueue s t) (k : SameQueue t u) : SameQueue s u := ⟨k.1.trans h.1, k.2.trans h.2⟩

theorem FilmStep.sameQueue (h : FilmStep s t) : SameQueue s t := by
  cases h with
  | takes f htake => exact ⟨takeFrame_pending f s t htake, takeFrame_openChoices f s t htake⟩
  | closes | releases | samples | occurs | halts => exact ⟨by simp, by simp⟩
  | tracks | empties | times | counts => exact ⟨rfl, rfl⟩

theorem FilmRun.sameQueue (h : FilmRun s t) : SameQueue s t :=
  h.keeps (P := SameQueue s) (fun _ _ hstep hs => hs.trans hstep.sameQueue) ⟨rfl, rfl⟩

theorem bindAppended_sameQueue (s : State) : SameQueue s (bindAppended s).2 := by
  rcases bindAppended_cases s with ⟨d, e, rest, -, -, -, hbind⟩ | ⟨-, hbind⟩ <;> rw [hbind]
  · exact ⟨by simp [bindLate], by simp [bindLate]⟩
  · exact ⟨rfl, rfl⟩

theorem Acts.sameQueue (h : Acts s t) : SameQueue s t := by
  cases h with
  | appends operand first es =>
    refine (SameQueue.trans (t := joinEntries first es s) ⟨rfl, rfl⟩ (bindAppended_sameQueue _)).trans ?_
    exact ⟨by simp, by simp⟩
  | flushes => exact (flushCommand_run s).sameQueue
  | reissues | drops => exact ⟨by simp [reissue, dropJammed], by simp [reissue, dropJammed]⟩
  | tableRepaired | masks | arms => exact ⟨by simp, by simp⟩
  | nothing | joins | converts | passes | table | settings | punch | fields | clearsList | clearsCounters | clearsEvents =>
    exact ⟨rfl, rfl⟩

theorem Takes.sameQueue (h : Takes s t) : SameQueue s t := by
  cases h with
  | ignored => exact ⟨rfl, rfl⟩
  | dropped => exact ⟨rfl, rfl⟩
  | executed _ hexec =>
    cases hexec with
    | answers _ _ _ _ hacts => exact SameQueue.trans (t := reservePlace s) ⟨rfl, rfl⟩ hacts.sameQueue
    | resets | leaves => exact ⟨rfl, rfl⟩

theorem takeDone_sameQueue (seq : Nat) (jammed : Bool) (s : State) : SameQueue s (takeDone seq jammed s) := by
  unfold takeDone takeJam
  split
  · exact ⟨by simp, by simp⟩
  · dsimp only
    split_ifs
    · split <;> exact ⟨by simp, by simp⟩
    · exact ⟨by simp, by simp⟩

theorem Sorts.sameQueue (h : Sorts s t) : SameQueue s t := by
  cases h with
  | discards => exact ⟨rfl, rfl⟩
  | forwards | strays => exact ⟨by simp, by simp⟩
  | rolls r n =>
    unfold takeRoll
    split_ifs <;> exact ⟨by simp, by simp⟩
  | takes htakes => exact htakes.sameQueue
  | takesOn r htakes => exact htakes.sameQueue.trans ⟨by simp, by simp⟩
  | reports seq jammed => exact takeDone_sameQueue seq jammed s
  | films _ hfilm => exact hfilm.run.sameQueue

theorem Effect.sameQueue (h : Effect s t) : SameQueue s t := by
  cases h with
  | nothing | powers | nrstFalls | huntsBad => exact ⟨rfl, rfl⟩
  | straps pins =>
    unfold strapMoves
    split_ifs
    · exact ⟨rfl, rfl⟩
    · exact ⟨by simp, by simp⟩
  | hunts =>
    unfold huntGood
    split_ifs <;> exact ⟨rfl, rfl⟩
  | slips =>
    unfold lockedBad
    dsimp only
    split_ifs <;> exact ⟨by simp, by simp⟩
  | sorts _ hsorts => exact SameQueue.trans (t := sorted s) ⟨rfl, rfl⟩ hsorts.sameQueue
  | flushExpires => exact (expireFlush_run s).sameQueue
  | deadlineExpires seq =>
    unfold expireDeadline
    split_ifs
    · exact ⟨by simp, by simp⟩
    · exact ⟨rfl, rfl⟩
  | portFrees =>
    unfold finishSending
    split
    · exact ⟨rfl, rfl⟩
    · split <;> exact ⟨rfl, rfl⟩
  | pathStores =>
    unfold pathToStored
    split_ifs <;> exact ⟨rfl, rfl⟩
  | drainEnds =>
    unfold drainEnd
    split_ifs <;> exact ⟨rfl, rfl⟩

end

/-! The tick (R94, R131). -/

section
variable (s : State)

/-- The deadlines that reach 0 are those that stood at 1 or below. -/
theorem dueDeadlines_countDown :
    dueDeadlines (countDown s).output = (s.output.inFlight.filter (fun e => decide (e.deadline ≤ 1))).map
      (fun e => .doneDeadlineExpiry (BitVec.ofNat 16 e.instruction.seq)) := by
  simp only [dueDeadlines, countDown, List.filter_map, List.map_map]
  congr 1
  refine List.filter_congr fun e _ => ?_
  simp only [Function.comp_apply, beq_eq_decide, decide_eq_decide]
  omega

theorem dueFlush_countDown :
    dueFlush (countDown s).matching =
      if s.matching.flushTimer = some 0 ∨ s.matching.flushTimer = some 1 then [.flushTimerExpiry] else [] := by
  unfold dueFlush countDown
  refine if_congr ?_ rfl rfl
  rcases s.matching.flushTimer with _ | r
  · simp
  · simp only [Option.map_some, Option.some.injEq]
    omega

theorem dueDeadlines_filter_ne (o : OutputController) :
    (dueDeadlines o).filter (fun c => c != .flushTimerExpiry) = dueDeadlines o := by
  refine List.filter_eq_self.mpr fun c hc => ?_
  obtain ⟨e, -, rfl⟩ := List.mem_map.mp hc
  rfl

theorem dueDeadlines_filter_eq (o : OutputController) :
    (dueDeadlines o).filter (fun c => c == .flushTimerExpiry) = [] := by
  refine List.filter_eq_nil_iff.mpr fun c hc => ?_
  obtain ⟨e, -, rfl⟩ := List.mem_map.mp hc
  exact Bool.false_ne_true

theorem dueFlush_filter_ne (m : MatchingEngine) : (dueFlush m).filter (fun c => c != .flushTimerExpiry) = [] := by
  unfold dueFlush
  split_ifs <;> rfl

theorem dueFlush_filter_eq (m : MatchingEngine) :
    (dueFlush m).filter (fun c => c == .flushTimerExpiry) = dueFlush m := by
  unfold dueFlush
  split_ifs <;> rfl

/-- The expiries that are due join the queue, in one order or the other. -/
theorem tick_eq :
    ∃ n p, tick s = { countDown s with openChoices := n, pending := s.pending ++ p } ∧
      (p = dueFlush (countDown s).matching ++ dueDeadlines (countDown s).output ∨
        p = dueDeadlines (countDown s).output ++ dueFlush (countDown s).matching) := by
  unfold tick
  dsimp only
  rcases dueFlush (countDown s).matching with _ | ⟨f, fs⟩
  · exact ⟨s.openChoices, _, rfl, .inl rfl⟩
  · rcases dueDeadlines (countDown s).output with _ | ⟨d, ds⟩
    · exact ⟨s.openChoices, _, rfl, .inl (List.append_nil _).symm⟩
    · refine ⟨s.openChoices + 1, _, rfl, ?_⟩
      split_ifs
      · exact .inl rfl
      · exact .inr rfl

end

/-! The receiver and the sorting (R150 to R154). -/

section
variable {s : State} {r : Record}

theorem huntGood_eq (s : State) :
    huntGood s = if s.line.goodRun < 2 then { s with line.goodRun := s.line.goodRun + 1 }
      else { s with line.alignment := .locked, line.goodRun := 0, line.badRun := 0 } := by
  unfold huntGood
  by_cases h : s.line.goodRun < 2
  · rw [if_pos h, if_neg (by omega)]
  · rw [if_neg h, if_pos (by omega)]

theorem lockedBad_eq (s : State) :
    lockedBad s =
      if s.line.badRun < 7 then
        { occur .checkFail (advance .checkFails s) with line.badRun := s.line.badRun + 1 }
      else occur .linkSlip { occur .checkFail (advance .checkFails s) with
        line.alignment := .hunt, line.goodRun := 0, line.badRun := 0 } := by
  unfold lockedBad
  dsimp only
  by_cases h : s.line.badRun < 7
  · rw [if_pos h, if_neg (by omega)]
  · rw [if_neg h, if_pos (by omega)]

theorem takeFilm_eq_none
    (h : ¬(s.line.mode = .convert ∧ r.dst = 66#8 ∧
      (r.kind = 0x10#8 ∧ r.payload.length = 8 ∨ r.kind = 0x11#8 ∧ r.payload.length = 4 ∨ r.kind = 0x12#8 ∨
        r.kind = 0x13#8 ∧ r.payload.length = 0))) : takeFilm r s = none := by
  unfold takeFilm kindReel kindMark kindScan kindReelEnd dstConverter
  split_ifs <;> first | rfl | (exfalso; tauto)

/-- A record in the last row of the sorting is passed on (R153, R154). -/
theorem sortStored_onlyPassed (h : onlyPassed s r) : sortStored r s = forwardRecord r s := by
  obtain ⟨-, hsrc, hroll, hcommand, hdone, hfilm⟩ := h
  rw [sortStored_film hsrc hroll hcommand hdone, takeFilm_eq_none hfilm, Option.getD_none]

theorem joinNames_iff (operand : List Byte) (s : State) :
    joinNames operand s = true ↔ ∃ b, operand = [b] ∧ b.toNat = s.line.strap.toNat := by
  unfold joinNames
  split
  · rename_i b
    rw [decide_eq_true_iff]
    exact ⟨fun h => ⟨b, rfl, h⟩, fun ⟨c, hc, h⟩ => by injection hc with hb; rwa [hb]⟩
  · rename_i hone
    exact ⟨fun h => Bool.noConfusion h, fun ⟨b, hb, _⟩ => absurd hb (hone b)⟩

/-- A JOIN that does not name the station is not acted on (R156). -/
theorem takeCommand_other_join {operand : List Byte} (h : joinNames operand s = false) (src : Byte) :
    takeCommand src (codeJoin :: operand) s = s := by
  simp [takeCommand, h]

/-- Any other COMMAND is executed when there is room for its REPLY, and dropped without (R163, R170). -/
theorem takeCommand_code {code : Byte} {operand : List Byte} (h : code = codeJoin → joinNames operand s = true) (src : Byte) :
    takeCommand src (code :: operand) s =
      if controlRoom s.line then execute src code operand (reservePlace s) else advance .droppedCommands s := by
  refine if_neg ?_
  rintro ⟨hcode, hnames⟩
  rw [h hcode] at hnames
  cases hnames

/-- BYPASS acts on no record but the JOIN that names the station (R152). -/
theorem sortBypass_of_not_joins (h : ¬joinsBypass s r) :
    sortBypass r (sorted s) =
      match s.line.path with | .through => sorted s | .stored => forwardRecord r (sorted s) := by
  have hkept : (if isJoinToAll r then takeCommand r.src r.payload (sorted s) else sorted s) = sorted s := by
    split_ifs with hjoin
    · simp only [isJoinToAll, Bool.and_eq_true, decide_eq_true_eq] at hjoin
      obtain ⟨⟨hkind, hdst⟩, hcode⟩ := hjoin
      obtain ⟨operand, hpayload⟩ : ∃ operand, r.payload = codeJoin :: operand := by
        cases hp : r.payload with
        | nil => simp [hp] at hcode
        | cons c operand => exact ⟨operand, by simpa [hp] using hcode⟩
      rw [hpayload]
      refine takeCommand_other_join (Bool.eq_false_iff.mpr fun hnames => h ?_) r.src
      obtain ⟨b, rfl, hb⟩ := (joinNames_iff operand (sorted s)).mp hnames
      exact ⟨hkind, hdst, b, hpayload, hb⟩
    · rfl
  unfold sortBypass
  rw [hkept]
  rfl

end

/-! Alignment and sorting of any command's record. -/

section
variable {c : Instr} {r : Record} {s : State}

theorem exec_own_record (hrecord : recordOf c = some r) (hlen : r.payload.length ≤ 320) (hlisten : listening s)
    (hmode : s.line.mode ≠ .bypass) (hown : isPosition s.line r.src = true) : exec c s = .next (arbitrated (sorted s)) := by
  rw [exec_of_recordOf hrecord, receive_of_member hlisten hlen hmode, sortStored_of_own]
  exact hown

theorem exec_only_passed (hrecord : recordOf c = some r) (hlen : r.payload.length ≤ 320) (hlisten : listening s)
    (hpassed : onlyPassed s r) : exec c s = .next (arbitrated (passOn r (sorted s))) := by
  rw [exec_of_recordOf hrecord, receive_of_member hlisten hlen hpassed.1, sortStored_onlyPassed, forwardRecord_eq_passOn]
  exact hpassed

theorem exec_in_bypass (hrecord : recordOf c = some r) (hlen : r.payload.length ≤ 320) (hlisten : listening s)
    (hmode : s.line.mode = .bypass) (hjoins : ¬joinsBypass s r) :
    exec c s = .next (arbitrated (match s.line.path with | .through => sorted s | .stored => passOn r (sorted s))) := by
  rw [exec_of_recordOf hrecord, receive_of_bypass hlisten hlen hmode, sortBypass_of_not_joins hjoins]
  cases s.line.path with
  | through => rfl
  | stored => simp only [forwardRecord_eq_passOn]

/-- A COMMAND to the position or to ALL acts in the sorted state; to ALL it is then passed on (R153). -/
theorem exec_command (hrecord : recordOf c = some r) (hlen : r.payload.length ≤ 320) (hlisten : listening s)
    (hmode : s.line.mode ≠ .bypass) (hsrc : isPosition s.line r.src = false) (hkind : r.kind = 0x40#8)
    (hdst : isPosition s.line r.dst = true ∨ r.dst = 63#8) :
    exec c s =
      .next (arbitrated
        (if isPosition s.line r.dst then takeCommand r.src r.payload (sorted s)
          else passOn r (takeCommand r.src r.payload (sorted s)))) := by
  rw [exec_of_recordOf hrecord, receive_of_member hlisten hlen hmode,
    sortStored_command (s := sorted s) hsrc hkind hdst, forwardRecord_eq_passOn]
  rfl

end

end Sys2Proof.Machine

namespace Sys2Proof.Proofs

open Sys2Proof.Machine Sys2Proof.Safety

/-- Settles O1: every command has its effect and then the arbiter's choice (`exec_effect`), and neither touches the queue. -/
theorem everyCommandCompletes : Obligations.EveryCommandCompletes := by
  intro c s
  obtain ⟨t, heffect, hexec⟩ := exec_effect c s
  obtain ⟨hpending, hchoices⟩ := heffect.sameQueue
  exact ⟨choose t, hexec, by rw [choose_pending, hpending], by rw [choose_openChoices, hchoices]⟩

/-- Settles O2: the step looks at the front of the queue. -/
theorem stepRunsFrontCommand : Obligations.StepRunsFrontCommand := by
  intro c rest s h
  simp [step, h]

/-- Settles O3: the queue is empty, so the step is the tick, and what joins the queue is what is due after the count-down. -/
theorem emptyQueueTicks : Obligations.EmptyQueueTicks := by
  intro s hempty
  obtain ⟨n, p, htick, horder⟩ := tick_eq s
  rw [hempty, List.nil_append] at htick
  refine ⟨n, p, ?_, ?_, ?_⟩
  · rw [step, hempty]
    exact congrArg Host.Outcome.next htick
  · rw [← dueDeadlines_countDown]
    rcases horder with rfl | rfl <;> simp only [List.filter_append, dueFlush_filter_ne, dueDeadlines_filter_ne,
      List.nil_append, List.append_nil]
  · rw [← dueFlush_countDown]
    rcases horder with rfl | rfl <;> simp only [List.filter_append, dueFlush_filter_eq, dueDeadlines_filter_eq,
      List.nil_append, List.append_nil]

/-- Settles O4: while NRST is low no record is received; after it, on the THROUGH path, there is no choice. -/
theorem signalsTaken : Obligations.SignalsTaken := by
  refine ⟨fun s => ?falls, fun c s hlow hc => ?ignored, fun pins s => ⟨rfl, ?powers⟩, fun pins s => ?straps⟩
  case falls =>
    exact congrArg Host.Outcome.next (choose_of_through (s := nrstFalls s) rfl)
  case ignored =>
    rcases hc with hrecord | ⟨bytes, rfl⟩
    · obtain ⟨r, hr⟩ := Option.isSome_iff_exists.mp hrecord
      rw [exec_of_recordOf hr, receive_of_nrstLow hlow]
    · rw [← choose_eq_arbitrated]
      exact congrArg (fun t => Host.Outcome.next (choose t)) (receiveBytes_of_nrstLow hlow bytes)
  case powers =>
    have hmask : eventSetOf severityW = 0x9EEEF9#24 := by decide
    have hpowered : exec (.nrstRelease pins) s = .next (powerOnState pins s) :=
      congrArg Host.Outcome.next (choose_of_through (s := powerOnState pins s) rfl)
    rw [hpowered, powerOnState, State.powerOn, powerOnCommand, hmask]
    rfl
  case straps =>
    rw [← choose_eq_arbitrated]
    rfl

/-- Settles O5: the powers are compared for each of the 64 points. -/
theorem defaultTables : Obligations.DefaultTables := by
  have hpoints : ∀ k ∈ List.range' 1 64,
      10 ^ (2 * defaultDensityTable.getD k 0) * k ^ 200 ≤ 10 * 64 ^ 200 ∧
      64 ^ 200 < 10 ^ (2 * defaultDensityTable.getD k 0 + 1) * k ^ 200 := by decide +kernel
  refine ⟨rfl, rfl, fun k hlow hhigh => hpoints k ?_, rfl, by decide +kernel⟩
  rw [List.mem_range'_1]
  omega

/-- Settles O7: `huntGood_eq` and `lockedBad_eq` say the run counts. -/
theorem alignmentFollowsRuns : Obligations.AlignmentFollowsRuns := by
  refine ⟨fun c r s hrecord hlen hhigh hhunt => ?_, fun bytes s hbad hhigh hhunt => ?_, fun bytes s hbad hlisten => ?_⟩
  · rw [exec_of_recordOf hrecord, receive_of_hunt hlen hhigh hhunt, huntGood_eq]
  · rw [exec_badRecord hbad, receiveBad_of_hunt hhigh hhunt]
  · rw [exec_badRecord hbad, receiveBad_of_listening hlisten, lockedBad_eq]
    rfl

/-- Settles O8: `sortStored` in its first and last row, and `sortBypass` without the JOIN it acts on. -/
theorem recordPassedOn : Obligations.RecordPassedOn := by
  intro c r s hrecord hlen hlisten
  exact ⟨exec_own_record hrecord hlen hlisten, exec_only_passed hrecord hlen hlisten, exec_in_bypass hrecord hlen hlisten⟩

/-- Settles O9: without a code and without room `takeCommand` only advances the counter. -/
theorem commandDropped : Obligations.CommandDropped := by
  refine ⟨fun n => rfl, fun c r s hrecord hlen hlisten hmode hsrc hkind hdst hdropped => ?_⟩
  have hcounted : takeCommand r.src r.payload (sorted s) = advance .droppedCommands (sorted s) := by
    rcases hpayload : r.payload with _ | ⟨code, operand⟩
    · rfl
    · rw [hpayload] at hdropped
      obtain ⟨hfull, hjoin⟩ := hdropped.resolve_left (List.cons_ne_nil _ _)
      have hroom : controlRoom s.line ≠ true := fun h => absurd ((controlRoom_iff s.line).mp h) (by omega)
      rw [takeCommand_code, if_neg]
      · exact hroom
      · rintro rfl
        obtain ⟨b, hb, hstrap⟩ := hjoin rfl
        injection hb with _ hb
        exact (joinNames_iff operand (sorted s)).mpr ⟨b, hb, hstrap⟩
  rw [exec_command hrecord hlen hlisten hmode hsrc hkind hdst, hcounted]
  rfl

/-- Settles O10: the cases of `takeRoll`. -/
theorem rollTaken : Obligations.RollTaken := by
  refine ⟨controlRoom_iff, isPosition_iff, fun s dst src counter hlisten hmode hsrc => ?_⟩
  have hexec : exec (.roll dst src counter) s =
      .next (arbitrated (takeRoll ⟨0x48#8, dst, src, [counter]⟩ counter.toNat (sorted s))) := by
    rw [exec_of_recordOf (r := ⟨0x48#8, dst, src, [counter]⟩) rfl, receive_of_member hlisten (Nat.le_of_ble_eq_true rfl) hmode,
      sortStored_roll (r := ⟨0x48#8, dst, src, [counter]⟩) (s := sorted s) hsrc rfl rfl]
    rfl
  have hbyte : be8 counter.toNat = [counter] := by simp [be8]
  refine ⟨fun hroom hlow hhigh => ?_, fun hroom hout => ?_, fun hfull => ?_⟩
  · rw [hexec, takeRoll, if_pos (by exact hroom), if_pos ⟨hlow, hhigh⟩]
    have hnext : be8 (counter.toNat + 1) = [counter + 1#8] := by
      simp [be8, BitVec.ofNat_add]
    simp only [rollOn, hnext]
    rfl
  · have hrange : ¬(1 ≤ counter.toNat ∧ counter.toNat ≤ 62) := by
      rcases hout with rfl | hhigh
      · decide
      · omega
    rw [hexec, takeRoll, if_pos (by exact hroom), if_neg hrange, rollOn, hbyte]
    rfl
  · have hno : ¬controlRoom (sorted s).line = true := by
      rw [show controlRoom (sorted s).line = false from hfull]
      exact Bool.false_ne_true
    rw [hexec, takeRoll, if_neg hno]
    rfl

/-- Settles O12: the three moments, each as its operation of the line path. -/
theorem pathAndPortFollow : Obligations.PathAndPortFollow := by
  intro s
  simp only [← choose_eq_arbitrated]
  refine ⟨rfl, rfl, ?_⟩
  change Host.Outcome.next (choose (finishSending s)) = _
  unfold finishSending
  rcases s.line.sending with _ | ⟨forwarded, record⟩
  · rfl
  · cases forwarded <;> simp

/-- Settles O13: the choice is `arbitrated` written out, case by case, and no choice is left due (`settledLaw_choose`). -/
theorem arbiterChooses : Obligations.ArbiterChooses := by
  have hexec (s : State) : exec .arbiterChoice s = .next (arbitrated s) := by
    rw [← choose_eq_arbitrated]
    rfl
  refine ⟨hexec, fun c s t h => ?settled, fun s hbusy => ?busy, fun s hpath hfree => ?free⟩
  case settled =>
    obtain ⟨u, -, hu⟩ := exec_effect c s
    rw [hu] at h
    injection h with h
    exact h ▸ settledLaw_choose u
  case busy => rw [hexec, arbitrated, if_pos hbusy]
  case free =>
    have hidle : ¬(s.line.path = .through ∨ s.line.sending ≠ none) := by simp [hpath, hfree]
    refine ⟨fun x q hcontrol => ?_, fun hcontrol => ⟨fun i rest hqueue hmay hflow => ?_, fun r rest hforward hblocked => ?_,
      fun hforward hblocked => ?_⟩⟩
    · rw [hexec, arbitrated, if_neg hidle, hcontrol]
    · rw [hexec, arbitrated, if_neg hidle, hcontrol]
      simp only [hqueue]
      exact congrArg Host.Outcome.next (if_pos ⟨hmay.1, hmay.2, hflow⟩)
    · rw [hexec, arbitrated, if_neg hidle, hcontrol]
      rcases hqueue : s.output.queue with _ | ⟨i, q⟩
      · simp only [hforward]
      · simp only [hforward]
        rw [if_neg]
        rintro ⟨hcredit, hheld, hflow⟩
        rcases hblocked with hempty | hnot | hburst
        · rw [hqueue] at hempty
          cases hempty
        · exact hnot ⟨hcredit, hheld⟩
        · exact absurd (hflow.resolve_left (by simp)) (not_lt.mpr hburst)
    · rw [hexec, arbitrated, if_neg hidle, hcontrol]
      rcases hqueue : s.output.queue with _ | ⟨i, q⟩
      · simp only [hforward]
      · simp only [hforward]
        rw [if_neg]
        rintro ⟨hcredit, hheld, -⟩
        exact hblocked.elim (fun hempty => by rw [hqueue] at hempty; cases hempty) fun hnot => hnot ⟨hcredit, hheld⟩

/-- Settles O54: the laws are decidable, and the state after reset is one. -/
theorem resetIsLawful : Obligations.ResetIsLawful := by
  refine ⟨⟨?_, ?_, ?_, ?_, ?_, ?_, ?_, ?_, ?_, ?_, ?_, ?_, ?_, ?_, ?_, ?_, ?_, ?_, ?_, ?_, ?_⟩, rfl, rfl, rfl, rfl, rfl⟩
  all_goals decide +kernel

end Sys2Proof.Proofs
end

section
/-! The management commands (chapter 8) that load no table: what a delivered COMMAND does, with the obligations O11, O15, O16,
O24 to O26, O28 and O29 assembled from the definitions of the single commands. -/

namespace Sys2Proof.Machine

open Sys2Proof.Safety

/-! A delivered COMMAND (R153, R163, R170). -/

section
variable {c : Instr} {dst src code : Byte} {operand : List Byte} {s : State}

/-- A delivered COMMAND is executed in the sorted state with the place of its REPLY kept; to ALL it is then passed on. -/
theorem exec_delivered (hrecord : recordOf c = some ⟨0x40#8, dst, src, code :: operand⟩) (hlen : operand.length ≤ 319)
    (h : delivered s dst src) (hjoin : code = codeJoin → joinNames operand s = true) :
    exec c s =
      .next (arbitrated (passedOn dst src code operand s (execute src code operand (reservePlace (sorted s))))) := by
  obtain ⟨hlisten, hmode, hsrc, hdst, hroom⟩ := h
  have hexec := exec_command hrecord (Nat.succ_le_succ hlen) hlisten hmode hsrc rfl hdst
  dsimp only at hexec
  have htake : takeCommand src (code :: operand) (sorted s) = execute src code operand (reservePlace (sorted s)) :=
    (takeCommand_code (s := sorted s) hjoin src).trans (if_pos hroom)
  rw [hexec, htake]
  rfl

/-- A command that only replies gives the answer of the statements. -/
theorem exec_answer {status : Status} {data : List Byte} {t : State}
    (hrecord : recordOf c = some ⟨0x40#8, dst, src, code :: operand⟩) (hlen : operand.length ≤ 319)
    (h : delivered s dst src) (hcode : code ≠ codeJoin)
    (hexec : execute src code operand (reservePlace (sorted s)) = reply src code status data t) :
    exec c s =
      .next (arbitrated (answer dst src code operand (BitVec.ofNat 8 (statusCode status)) data s t)) := by
  rw [exec_delivered hrecord hlen h (fun h => absurd h hcode), hexec]
  rfl

end

/-! The codes of the table (R206). -/

section
variable (src : Byte) (operand : List Byte) (s : State)

theorem execute_join : execute src 0x01#8 operand s = cmdJoin src s := rfl
theorem execute_leave : execute src 0x02#8 operand s = cmdLeave src operand s := rfl
theorem execute_setMode : execute src 0x03#8 operand s = cmdSetMode src operand s := rfl
theorem execute_stationReset : execute src 0x04#8 operand s = cmdStationReset src operand s := rfl
theorem execute_loadDensity : execute src 0x10#8 operand s = cmdLoadDensity src operand s := rfl
theorem execute_loadSettings : execute src 0x11#8 operand s = cmdLoadSettings src operand s := rfl
theorem execute_loadPunch : execute src 0x12#8 operand s = cmdLoadPunch src operand s := rfl
theorem execute_loadFields : execute src 0x13#8 operand s = cmdLoadFields src operand s := rfl
theorem execute_listAppend : execute src 0x20#8 operand s = cmdListAppend src operand s := rfl
theorem execute_listClear : execute src 0x21#8 operand s = cmdListClear src operand s := rfl
theorem execute_listQuery : execute src 0x22#8 operand s = cmdListQuery src operand s := rfl
theorem execute_flush : execute src 0x28#8 operand s = cmdFlush src operand s := rfl
theorem execute_resumeOutput : execute src 0x29#8 operand s = cmdResumeOutput src operand s := rfl
theorem execute_readStatus : execute src 0x30#8 operand s = cmdReadStatus src operand s := rfl
theorem execute_readCounters : execute src 0x31#8 operand s = cmdReadCounters src operand s := rfl
theorem execute_readEvents : execute src 0x32#8 operand s = cmdReadEvents src operand s := rfl
theorem execute_clearEvents : execute src 0x33#8 operand s = cmdClearEvents src operand s := rfl
theorem execute_setMask : execute src 0x34#8 operand s = cmdSetMask src operand s := rfl
theorem execute_armNotice : execute src 0x35#8 operand s = cmdArmNotice src operand s := rfl
theorem execute_identify : execute src 0x3F#8 operand s = cmdIdentify src operand s := rfl

/-- Any other code names no command (R170). -/
theorem execute_of_unknown {code : Byte} (h : code ∉ commandCodes) :
    execute src code operand s = reply src code .unknown [] s := by
  simp only [commandCodes, List.mem_cons, List.not_mem_nil, or_false, not_or] at h
  simp only [execute, h, if_false]

end

/-! Single commands. -/

theorem flag8_isSome {α : Type} [DecidableEq α] (x : Option α) :
    flag8 x.isSome = [if x = none then 0#8 else 1#8] := by
  cases x <;> simp [flag8, be8]

theorem be8_modeCode {m : StationMode} (h : m ≠ .bypass) : be8 (modeCode m) = [if m = .convert then 2#8 else 1#8] := by
  cases m with
  | bypass => exact absurd rfl h
  | pass => rfl
  | convert => rfl

theorem holdsWork_eq_false_iff (s : State) :
    holdsWork s = false ↔
      s.matching.hold = [] ∧ s.output.queue = [] ∧ s.output.inFlight = [] ∧ s.output.jam = none := by
  simp [holdsWork, and_assoc]

/-- The three bytes of an event set, high byte first (R205). -/
theorem readEventSet_bytes (a b c : Byte) : readEventSet [a, b, c] = (a ++ b ++ c : BitVec 24) := by
  refine BitVec.eq_of_toNat_eq ?_
  have hb := b.isLt
  have hc := c.isLt
  have ha := a.isLt
  rw [BitVec.toNat_append, BitVec.toNat_append, ← Nat.shiftLeft_add_eq_or_of_lt hc, ← Nat.shiftLeft_add_eq_or_of_lt hb]
  simp only [readEventSet, readBe, BitVec.toNat_ofNat, List.foldl_cons, List.foldl_nil, Nat.shiftLeft_eq]
  omega

theorem eventSetBytes_readEventSet (a b c : Byte) : eventSetBytes (readEventSet [a, b, c]) = [a, b, c] := by
  have ha := a.isLt
  have hb := b.isLt
  have hc := c.isLt
  simp only [eventSetBytes, readEventSet, be24, readBe, BitVec.toNat_ofNat, List.foldl_cons, List.foldl_nil]
  refine congrArg₂ List.cons (BitVec.eq_of_toNat_eq ?_)
    (congrArg₂ List.cons (BitVec.eq_of_toNat_eq ?_) (congrArg₂ List.cons (BitVec.eq_of_toNat_eq ?_) rfl)) <;>
    rw [BitVec.toNat_ofNat] <;> omega

/-- Beside the kept place there is room for a NOTICE at fewer than six other records (R163, R194). -/
theorem noticeFalls_reserved_iff {s : State} (hmode : s.line.mode ≠ .bypass) (hplace : s.line.replyReserved = true) :
    noticeFalls s = true ↔
      s.command.arming = true ∧ s.command.latched &&& ~~~s.command.mask ≠ 0#24 ∧
        (s.line.control.filter (fun c => !c.halt)).length < 6 := by
  have hroom : controlRoom s.line = true ↔ (s.line.control.filter (fun c => !c.halt)).length < 6 := by
    rw [controlRoom_iff, hplace]
    simp only [if_true]
    omega
  rw [noticeFalls, Bool.and_eq_true, Bool.and_eq_true, Bool.and_eq_true, hroom, decide_eq_true_iff, decide_eq_true_iff,
    and_iff_left hmode, and_assoc]
  rfl

theorem noticeTest_of_falls {cause : Option Event} {s : State} (h : noticeFalls s = true) :
    noticeTest cause s = { queueControl (noticeRecord cause s) s with command.arming := false } := if_pos h

theorem noticeTest_of_not_falls {cause : Option Event} {s : State} (h : noticeFalls s = false) :
    noticeTest cause s = s := if_neg (by simp [h])

/-- With LIST as it stands the report asks for nothing (R138). -/
theorem requestHalt_of_has {k : HaltReason} {b : Bool} {s : State} (h : haltHas s.output.halt k = b) :
    requestHalt k b s = s := if_pos h

theorem closeAndRelease_of_none {s : State} (h : s.matching.drawing = none) : closeAndRelease s = s := by
  simp [closeAndRelease, h]

theorem closeAndRelease_of_some {s : State} {d : Drawing} (h : s.matching.drawing = some d) :
    closeAndRelease s = release (closeDrawing s) := by
  simp [closeAndRelease, h]

/-- With no drawing open the flush timer stops unless a frame is in assembly (R94). -/
theorem settleTimer_of_no_drawing {s : State} (h : s.matching.drawing = none) :
    settleTimer s =
      { s with matching.flushTimer := if s.tracker.assembly = none then none else s.matching.flushTimer } := by
  unfold settleTimer timerNeeded
  by_cases hassembly : s.tracker.assembly = none
  · rw [if_neg (by simp [hassembly, h]), if_pos hassembly]
  · rw [if_pos (by simp [Option.isSome_iff_ne_none, hassembly]), if_neg hassembly]

theorem reportList_of_no_drawing {s : State} (h : s.matching.drawing = none) : reportList s = requestHalt .list false s := by
  simp [reportList, openUnbound, h]

theorem haltLaw_list_of_no_drawing {s : State} (hs : haltLaw s) (h : s.matching.drawing = none) : s.output.halt.list = false := by
  rw [hs.1, h]
  rfl

theorem presence16_eq (x : Option Nat) :
    presence16 x = match x with | none => [0#8, 0#8, 0#8] | some n => 1#8 :: be16 n := by
  cases x <;> rfl

theorem isJoinToAll_join (src : Byte) (operand : List Byte) :
    isJoinToAll ⟨0x40#8, 63#8, src, 0x01#8 :: operand⟩ = true := by
  simp [isJoinToAll, kindCommand, dstAll, codeJoin]

/-- A JOIN that names a station in BYPASS acts, and on the STORED path it is forwarded (R152, R156). -/
theorem exec_join_in_bypass {s : State} {dst src : Byte} {operand : List Byte} (hlisten : listening s)
    (hlen : operand.length ≤ 319) (hmode : s.line.mode = .bypass) (hdst : dst = 63#8) :
    exec (.join dst src operand) s =
      .next (arbitrated (match s.line.path with
        | .through => takeCommand src (0x01#8 :: operand) (sorted s)
        | .stored => passOn ⟨0x40#8, dst, src, 0x01#8 :: operand⟩ (takeCommand src (0x01#8 :: operand) (sorted s)))) := by
  subst hdst
  have hfits : (⟨0x40#8, 63#8, src, 0x01#8 :: operand⟩ : Record).payload.length ≤ 320 := Nat.succ_le_succ hlen
  rw [exec_of_recordOf (r := ⟨0x40#8, 63#8, src, 0x01#8 :: operand⟩) rfl, receive_of_bypass hlisten hfits hmode, sortBypass, isJoinToAll_join, if_pos rfl, show (sorted s).line.path = s.line.path from rfl]
  cases s.line.path with
  | through => rfl
  | stored => simp only [forwardRecord_eq_passOn]

/-! Refusals (R170, R171). -/

/-- The commands whose operand has one length, with that length (R207). -/
def operandLengths : List (Byte × Nat) :=
  [(0x02#8, 0), (0x03#8, 1), (0x04#8, 0), (0x10#8, 130), (0x11#8, 36), (0x12#8, 128), (0x21#8, 0), (0x22#8, 0), (0x28#8, 0),
    (0x29#8, 1), (0x30#8, 0), (0x31#8, 1), (0x32#8, 0), (0x33#8, 3), (0x34#8, 3), (0x35#8, 0), (0x3F#8, 0)]

section
variable {src code : Byte} {operand : List Byte} {s : State}

theorem cmdSetMode_of_length_ne_one (h : operand.length ≠ 1) :
    cmdSetMode src operand s = reply src codeSetMode .badLength [] s := by
  match operand, h with
  | [], _ => rfl
  | _ :: _ :: _, _ => rfl

theorem cmdResumeOutput_of_length_ne_one (h : operand.length ≠ 1) :
    cmdResumeOutput src operand s = reply src codeResumeOutput .badLength [] s := by
  match operand, h with
  | [], _ => rfl
  | _ :: _ :: _, _ => rfl

theorem cmdReadCounters_of_length_ne_one (h : operand.length ≠ 1) :
    cmdReadCounters src operand s = reply src codeReadCounters .badLength [] s := by
  match operand, h with
  | [], _ => rfl
  | _ :: _ :: _, _ => rfl

/-- An operand of another length than the command's own is BAD_LENGTH, before anything else is looked at. -/
theorem execute_of_wrong_length {n : Nat} (h : (code, n) ∈ operandLengths) (hlen : operand.length ≠ n) :
    execute src code operand s = reply src code .badLength [] s := by
  simp only [operandLengths, List.mem_cons, Prod.mk.injEq, List.not_mem_nil, or_false] at h
  rcases h with ⟨rfl, rfl⟩ | ⟨rfl, rfl⟩ | ⟨rfl, rfl⟩ | ⟨rfl, rfl⟩ | ⟨rfl, rfl⟩ | ⟨rfl, rfl⟩ | ⟨rfl, rfl⟩ | ⟨rfl, rfl⟩ |
    ⟨rfl, rfl⟩ | ⟨rfl, rfl⟩ | ⟨rfl, rfl⟩ | ⟨rfl, rfl⟩ | ⟨rfl, rfl⟩ | ⟨rfl, rfl⟩ | ⟨rfl, rfl⟩ | ⟨rfl, rfl⟩ | ⟨rfl, rfl⟩
  · exact (execute_leave ..).trans (if_pos hlen)
  · exact (execute_setMode ..).trans (cmdSetMode_of_length_ne_one hlen)
  · exact (execute_stationReset ..).trans (if_pos hlen)
  · exact (execute_loadDensity ..).trans (if_pos hlen)
  · exact (execute_loadSettings ..).trans (if_pos hlen)
  · exact (execute_loadPunch ..).trans (if_pos hlen)
  · exact (execute_listClear ..).trans (if_pos hlen)
  · exact (execute_listQuery ..).trans (if_pos hlen)
  · exact (execute_flush ..).trans (if_pos hlen)
  · exact (execute_resumeOutput ..).trans (cmdResumeOutput_of_length_ne_one hlen)
  · exact (execute_readStatus ..).trans (if_pos hlen)
  · exact (execute_readCounters ..).trans (cmdReadCounters_of_length_ne_one hlen)
  · exact (execute_readEvents ..).trans (if_pos hlen)
  · exact (execute_clearEvents ..).trans (if_pos hlen)
  · exact (execute_setMask ..).trans (if_pos hlen)
  · exact (execute_armNotice ..).trans (if_pos hlen)
  · exact (execute_identify ..).trans (if_pos hlen)

/-- LOAD_FIELDS: a count above 8, or another length than its placements take, is BAD_LENGTH. -/
theorem cmdLoadFields_of_wrong_length
    (h : operand = [] ∨ 8 < (operand.headD 0#8).toNat ∨ operand.length ≠ 1 + 4 * (operand.headD 0#8).toNat) :
    cmdLoadFields src operand s = reply src codeLoadFields .badLength [] s := by
  cases operand with
  | nil => rfl
  | cons count body =>
    simp only [reduceCtorEq, List.headD_cons, List.length_cons, false_or] at h
    exact if_pos (h.imp_right (by omega))

theorem cmdLoadFields_of_right_length (hcons : operand ≠ []) (hcount : (operand.headD 0#8).toNat ≤ 8)
    (hlen : operand.length = 1 + 4 * (operand.headD 0#8).toNat) :
    cmdLoadFields src operand s = loadPlacements src (readPlacements operand.tail) s := by
  cases operand with
  | nil => exact absurd rfl hcons
  | cons count body =>
    simp only [List.headD_cons, List.length_cons] at hcount hlen
    exact if_neg (by omega)

theorem inConvert_of_mode (h : s.line.mode = .convert) : inConvert s = true := by
  rw [inConvert, h]
  rfl

/-- A load of the right length is refused in CONVERT (R175). -/
theorem execute_load_in_convert (hmode : s.line.mode = .convert)
    (h : (code, operand.length) ∈ ([(0x10#8, 130), (0x11#8, 36), (0x12#8, 128)] : List (Byte × Nat))) :
    execute src code operand s = reply src code .mode [] s := by
  simp only [List.mem_cons, Prod.mk.injEq, List.not_mem_nil, or_false] at h
  obtain ⟨rfl, hlen⟩ | ⟨rfl, hlen⟩ | ⟨rfl, hlen⟩ := h
  · exact (execute_loadDensity ..).trans ((if_neg (not_not.mpr hlen)).trans (if_pos (inConvert_of_mode hmode)))
  · exact (execute_loadSettings ..).trans ((if_neg (not_not.mpr hlen)).trans (if_pos (inConvert_of_mode hmode)))
  · exact (execute_loadPunch ..).trans ((if_neg (not_not.mpr hlen)).trans (if_pos (inConvert_of_mode hmode)))

end

end Sys2Proof.Machine

namespace Sys2Proof.Proofs

open Sys2Proof.Machine Sys2Proof.Safety

/-- Settles O11: in BYPASS by `exec_join_in_bypass`; as a member by `exec_delivered`, or not acted on. -/
theorem joinTaken : Obligations.JoinTaken := by
  intro s dst src operand hlisten hlen
  have hnames (h : ∃ b, operand = [b] ∧ b.toNat = s.line.strap.toNat) : joinNames operand (sorted s) = true :=
    (joinNames_iff operand (sorted s)).mpr h
  refine ⟨fun hmode hdst hroom hstrap => ?joins, fun hmode hdst hroom hstrap => ?full, fun h hstrap => ?member,
    fun hmode hsrc hdst hother => ?other⟩
  case joins =>
    rw [exec_join_in_bypass hlisten hlen hmode hdst, takeCommand_code (fun _ => hnames hstrap), if_pos (by exact hroom),
      execute_join, cmdJoin, if_pos (by exact hmode)]
    rfl
  case full =>
    rw [exec_join_in_bypass hlisten hlen hmode hdst, takeCommand_code (fun _ => hnames hstrap),
      if_neg (by rw [show controlRoom (sorted s).line = false from hroom]; exact Bool.false_ne_true)]
    rfl
  case member =>
    rw [exec_delivered rfl hlen h (fun _ => hnames hstrap), execute_join, cmdJoin, if_neg (by exact h.2.1)]
    rfl
  case other =>
    have hnot : joinNames operand (sorted s) = false :=
      Bool.eq_false_iff.mpr fun h => hother ((joinNames_iff operand (sorted s)).mp h)
    have hexec := exec_command (c := .join dst src operand) (r := ⟨0x40#8, dst, src, codeJoin :: operand⟩) rfl
      (Nat.succ_le_succ hlen) hlisten hmode hsrc rfl hdst
    dsimp only at hexec
    rw [hexec, takeCommand_other_join hnot]
    rfl

/-- Settles O15: the branches of `cmdSetMode`. -/
theorem setModeTaken : Obligations.SetModeTaken := by
  intro s dst src h
  have hexec {m : Byte} {status : Status} {data : List Byte} {t : State}
      (hreply : cmdSetMode src [m] (reservePlace (sorted s)) = reply src 0x03#8 status data t) :
      exec (.setMode dst src [m]) s =
        .next (arbitrated (answer dst src 0x03#8 [m] (BitVec.ofNat 8 (statusCode status)) data s t)) :=
    exec_answer rfl (Nat.le_of_ble_eq_true rfl) h (by decide) hreply
  refine ⟨?convert, fun hpass => ?pass, fun hconvert hidle => ?idle, fun hconvert hwork => ?busy, fun m h1 h2 => ?bad⟩
  case convert => exact hexec (status := .ok) (data := [2#8]) (t := reservePlace { sorted s with line.mode := .convert }) rfl
  case pass =>
    refine hexec (status := .ok) (data := [1#8]) (t := reservePlace (sorted s)) ?_
    simp only [cmdSetMode, if_pos, setModePass]
    rw [if_pos (by exact hpass)]
    rfl
  case idle =>
    have hnone : holdsWork (reservePlace (sorted s)) = false := (holdsWork_eq_false_iff _).mpr hidle
    have hmode : (reservePlace (sorted s)).line.mode ≠ .pass := by
      rw [show (reservePlace (sorted s)).line.mode = .convert from hconvert]
      decide
    refine hexec (status := .ok) (data := [1#8])
      (t := reservePlace { sorted s with line.mode := .pass, matching.flushTimer := none }) ?_
    simp only [cmdSetMode, if_pos, setModePass, if_neg hmode, hnone, Bool.false_eq_true, if_false]
    rfl
  case busy =>
    have hsome : holdsWork (reservePlace (sorted s)) = true := by
      rw [← Bool.not_eq_false]
      exact fun hnone => hwork ((holdsWork_eq_false_iff _).mp hnone)
    have hmode : (reservePlace (sorted s)).line.mode ≠ .pass := by
      rw [show (reservePlace (sorted s)).line.mode = .convert from hconvert]
      decide
    refine hexec (status := .busy) (t := reservePlace (sorted s)) ?_
    simp only [cmdSetMode, if_pos, setModePass, if_neg hmode, hsome, busyData, flag8_isSome]
    rfl
  case bad =>
    refine hexec (status := .badValue) (t := reservePlace (sorted s)) ?_
    simp only [cmdSetMode, if_neg h1, if_neg h2]
    rfl

/-- Settles O16: the REPLY is queued before `resetBlocks`, with what the reset discards. -/
theorem resetAndLeaveTaken : Obligations.ResetAndLeaveTaken := by
  intro s dst src h blocks
  have hlen : ([] : List Byte).length ≤ 319 := Nat.zero_le _
  refine ⟨?_, ?_⟩
  · have hdata : resetData (reservePlace (sorted s)) =
        [if s.line.mode = .convert then 2#8 else 1#8, BitVec.ofNat 8 s.matching.hold.length,
          BitVec.ofNat 8 (s.output.queue.length + s.output.inFlight.length + (if s.output.jam = none then 0 else 1)),
          if s.tracker.assembly = none then 0#8 else 1#8] := by
      have hjam : (if s.output.jam.isSome then 1 else 0) = if s.output.jam = none then 0 else 1 := by
        cases s.output.jam <;> rfl
      unfold resetData
      rw [flag8_isSome, be8_modeCode (by exact h.2.1), show (reservePlace (sorted s)).output.jam = s.output.jam from rfl, hjam]
      rfl
    rw [exec_delivered rfl hlen h (fun h => absurd h (by decide)), execute_stationReset]
    have hreset : cmdStationReset src [] (reservePlace (sorted s)) =
        { resetBlocks (reply src codeStationReset .ok (resetData (reservePlace (sorted s))) (reservePlace (sorted s))) with
          line.mode := .pass } := rfl
    rw [hreset, hdata]
    rfl
  · rw [exec_delivered rfl hlen h (fun h => absurd h (by decide)), execute_leave]
    rfl

/-- Settles O24: the drawing closes with release, the timer settles, and LIST has nothing left to stand for. -/
theorem flushTaken : Obligations.FlushTaken := by
  intro s dst src h hlaw settled
  have hlen : ([] : List Byte).length ≤ 319 := Nat.zero_le _
  refine ⟨fun hnone => ?_, fun d hopen => ?_⟩
  · have hnone' : (reservePlace (sorted s)).matching.drawing = none := hnone
    have hsettle : reportList (settleTimer (closeAndRelease (reservePlace (sorted s)))) = reservePlace (settled (sorted s)) := by
      rw [closeAndRelease_of_none hnone', settleTimer_of_no_drawing hnone', reportList_of_no_drawing (by exact hnone),
        requestHalt_of_has (by exact haltLaw_list_of_no_drawing hlaw hnone)]
      rfl
    refine exec_answer rfl hlen h (by decide) (status := .ok) (t := reservePlace (settled (sorted s))) ?_
    rw [execute_flush]
    unfold cmdFlush
    dsimp only
    rw [hsettle, hnone']
    rfl
  · have hopen' : (reservePlace (sorted s)).matching.drawing = some d := hopen
    dsimp only
    refine exec_answer rfl hlen h (by decide) (status := .ok) ?_
    rw [execute_flush]
    unfold cmdFlush
    dsimp only
    have hassembly : (release (closeDrawing (reservePlace (sorted s)))).tracker.assembly = s.tracker.assembly := by
      rw [release_tracker, closeDrawing_tracker]
      rfl
    have hcode : be8 (drawingStateCode (some d)) = [if d.entry = none then 2#8 else 1#8] := by
      unfold drawingStateCode
      cases hentry : d.entry <;> simp [be8, hentry]
    rw [closeAndRelease_of_some hopen', settleTimer_of_no_drawing (by simp), reportList_of_no_drawing (by simp), hopen',
      hassembly, hcode, if_neg (by decide), requestHalt_matching]
    rfl

/-- Settles O25: the branches of `resume`. -/
theorem resumeOutputTaken : Obligations.ResumeOutputTaken := by
  intro s dst src h reserved
  have hexec {choice : Byte} {status : Status} {data : List Byte} {t : State}
      (hchoice : choice = 1#8 ∨ choice = 2#8)
      (hreply : resume src choice (reservePlace (sorted s)) = reply src 0x29#8 status data t) :
      exec (.resumeOutput dst src [choice]) s =
        .next (arbitrated (answer dst src 0x29#8 [choice] (BitVec.ofNat 8 (statusCode status)) data s t)) := by
    refine exec_answer rfl (Nat.le_of_ble_eq_true rfl) h (by decide) ?_
    rw [execute_resumeOutput]
    exact (if_pos hchoice).trans hreply
  refine ⟨fun choice hchoice hfree => ?_, fun i hheld hjam => ?_⟩
  · refine hexec hchoice (status := .state) (t := reservePlace (sorted s)) ?_
    unfold resume
    rw [if_neg (by rw [show (reservePlace (sorted s)).output.held = false from hfree]; exact Bool.false_ne_true)]
    rfl
  · have hresume (choice : Byte) : resume src choice (reservePlace (sorted s)) =
        if choice = 1#8 then
          if 25 ≤ s.output.queue.length then reply src codeResumeOutput .busy [] (reservePlace (sorted s))
          else resumeReply src i choice (reissue i (reservePlace (sorted s)))
        else resumeReply src i choice (dropJammed (reservePlace (sorted s))) := by
      unfold resume
      rw [if_pos (by exact hheld), show (reservePlace (sorted s)).output.jam = some i from hjam]
      rfl
    refine ⟨fun hfull => ?_, fun hroom => ?_, ?_⟩
    · refine hexec (.inl rfl) (status := .busy) (t := reservePlace (sorted s)) ?_
      rw [hresume, if_pos rfl, if_pos hfull]
      rfl
    · refine hexec (.inl rfl) (status := .ok) (t := reissue i (reservePlace (sorted s))) ?_
      rw [hresume, if_pos rfl, if_neg (not_le.mpr hroom)]
      rfl
    · refine hexec (.inr rfl) (status := .ok) (t := dropJammed (reservePlace (sorted s))) ?_
      rw [hresume, if_neg (by decide)]
      have hqueue : (dropJammed (reservePlace (sorted s))).output.queue = s.output.queue := by
        simp [dropJammed, endHold, sorted]
      unfold resumeReply
      rw [hqueue]
      rfl

/-- Settles O26: each query replies with what stands; LIST_CLEAR and READ_COUNTERS with option 1 empty what they name. -/
theorem queriesAnswer : Obligations.QueriesAnswer := by
  intro s dst src h n counters
  have hexec {c : Instr} {code : Byte} {operand : List Byte} {status : Status} {data : List Byte} {t : State}
      (hrecord : recordOf c = some ⟨0x40#8, dst, src, code :: operand⟩) (hlen : operand.length ≤ 319) (hcode : code ≠ codeJoin)
      (hreply : execute src code operand (reservePlace (sorted s)) = reply src code status data (reservePlace t)) :
      exec c s = .next (arbitrated (answer dst src code operand (BitVec.ofNat 8 (statusCode status)) data s t)) :=
    exec_answer hrecord hlen h hcode hreply
  have hcounters : (counterValues n).flatMap be16 = counters := List.flatMap_def ..
  refine ⟨hexec rfl (Nat.zero_le _) (by decide) (status := .ok) rfl, ?query, hexec rfl (Nat.zero_le _) (by decide) (status := .ok) rfl,
    ?counters, ?clear, ?events, ?identify⟩
  case query =>
    refine hexec rfl (Nat.zero_le _) (by decide) (status := .ok) ?_
    rw [execute_listQuery]
    have hhead : presence16 (headNumber (reservePlace (sorted s)).list) =
        match s.list.entries with | [] => [0#8, 0#8, 0#8] | e :: _ => 1#8 :: be16 e.listNumber := by
      unfold headNumber
      rw [show (reservePlace (sorted s)).list = s.list from rfl]
      cases s.list.entries <;> rfl
    unfold cmdListQuery
    rw [if_neg (by decide), hhead, presence16_eq]
    rfl
  case counters =>
    refine hexec rfl (Nat.le_of_ble_eq_true rfl) (by decide) (status := .ok) ?_
    rw [← hcounters]
    rfl
  case clear =>
    refine hexec rfl (Nat.le_of_ble_eq_true rfl) (by decide) (status := .ok) ?_
    rw [← hcounters]
    rfl
  case events =>
    refine hexec rfl (Nat.zero_le _) (by decide) (status := .ok) ?_
    rw [execute_readEvents]
    unfold cmdReadEvents flag8
    cases harm : s.command.arming <;> simp [be8, eventSetBytes, sorted, harm, codeReadEvents]
  case identify =>
    refine hexec rfl (Nat.zero_le _) (by decide) (status := .ok) ?_
    rw [execute_identify]
    unfold cmdIdentify
    rw [if_neg (by decide), be8_modeCode (by exact h.2.1)]
    cases hposition : s.line.position <;>
      simp [be8, be16, sorted, hposition, codeIdentify, vendorCode, partCode, revisionNumber]

/-- Settles O28: the notice test in the state with the place of the REPLY kept. -/
theorem eventCommandsTaken : Obligations.EventCommandsTaken := by
  intro s dst src h others noticed
  have hmode : s.line.mode ≠ .bypass := h.2.1
  have hexec {c : Instr} {code : Byte} {operand : List Byte} {status : Status} {data : List Byte} {t : State}
      (hrecord : recordOf c = some ⟨0x40#8, dst, src, code :: operand⟩) (hlen : operand.length ≤ 319) (hcode : code ≠ codeJoin)
      (hreply : execute src code operand (reservePlace (sorted s)) = reply src code status data (reservePlace t)) :
      exec c s = .next (arbitrated (answer dst src code operand (BitVec.ofNat 8 (statusCode status)) data s t)) :=
    exec_answer hrecord hlen h hcode hreply
  refine ⟨fun a b c => ?clear, fun a b c => ?mask, ?arm⟩
  case clear =>
    rw [← readEventSet_bytes]
    exact hexec rfl (Nat.le_of_ble_eq_true rfl) (by decide) (status := .ok) rfl
  case mask =>
    rw [← readEventSet_bytes]
    dsimp only
    have hfalls := noticeFalls_reserved_iff (s := reservePlace { sorted s with command.mask := readEventSet [a, b, c] })
      (by exact hmode) rfl
    have hcmd (b' : Bool) (hb : noticeFalls (reservePlace { sorted s with command.mask := readEventSet [a, b, c] }) = b') :
        execute src 0x34#8 [a, b, c] (reservePlace (sorted s)) =
          reply src 0x34#8 .ok (eventSetBytes (readEventSet [a, b, c]) ++ flag8 b')
            (noticeTest none (reservePlace { sorted s with command.mask := readEventSet [a, b, c] })) := by
      rw [← hb]
      rfl
    split_ifs with hnotice
    · have htrue := hfalls.mpr hnotice
      refine hexec rfl (Nat.le_of_ble_eq_true rfl) (by decide) (status := .ok) ?_
      rw [hcmd true htrue, noticeTest_of_falls htrue, eventSetBytes_readEventSet]
      rfl
    · have hfalse := Bool.eq_false_iff.mpr fun htrue => hnotice (hfalls.mp htrue)
      refine hexec rfl (Nat.le_of_ble_eq_true rfl) (by decide) (status := .ok) ?_
      rw [hcmd false hfalse, noticeTest_of_not_falls hfalse, eventSetBytes_readEventSet]
      rfl
  case arm =>
    have hfalls := noticeFalls_reserved_iff (s := reservePlace { sorted s with command.arming := true }) (by exact hmode) rfl
    have hcmd (b' : Bool) (hb : noticeFalls (reservePlace { sorted s with command.arming := true }) = b') :
        execute src 0x35#8 [] (reservePlace (sorted s)) =
          reply src 0x35#8 .ok
            (flag8 (noticeTest none (reservePlace { sorted s with command.arming := true })).command.arming ++ flag8 b')
            (noticeTest none (reservePlace { sorted s with command.arming := true })) := by
      rw [← hb]
      rfl
    split_ifs with hnotice
    · have htrue := hfalls.mpr ⟨rfl, hnotice⟩
      refine hexec rfl (Nat.zero_le _) (by decide) (status := .ok) ?_
      rw [hcmd true htrue, noticeTest_of_falls htrue]
      rfl
    · have hfalse := Bool.eq_false_iff.mpr fun htrue => hnotice (hfalls.mp htrue).2
      refine hexec rfl (Nat.zero_le _) (by decide) (status := .ok) ?_
      rw [hcmd false hfalse, noticeTest_of_not_falls hfalse]
      rfl

/-- Settles O29: each refusal is the first branch of its command. -/
theorem refusedCommandsAnswer : Obligations.RefusedCommandsAnswer := by
  intro c dst src code operand s hrecord hlen h refused
  have hrefused {status : Status} (hcode : code ≠ codeJoin)
      (hreply : execute src code operand (reservePlace (sorted s)) = reply src code status [] (reservePlace (sorted s))) :
      refused (BitVec.ofNat 8 (statusCode status)) :=
    exec_answer hrecord hlen h hcode hreply
  refine ⟨fun hunknown => ?unknown, fun n hn hne => ?length, fun hcode hbad => ?fields, fun hmode hload => ?mode,
    fun hmode hcode hcons hcount hright => ?fieldsMode, fun b hoperand hchoice => ?value⟩
  case unknown =>
    have hjoin : code ≠ codeJoin := by
      rintro rfl
      exact hunknown (by decide)
    exact hrefused (status := .unknown) hjoin (execute_of_unknown _ _ _ hunknown)
  case length =>
    have hjoin : code ≠ codeJoin := by
      rintro rfl
      simp [codeJoin] at hn
    exact hrefused (status := .badLength) hjoin (execute_of_wrong_length hn hne)
  case fields =>
    subst hcode
    exact hrefused (status := .badLength) (by decide) (cmdLoadFields_of_wrong_length hbad)
  case mode =>
    have hjoin : code ≠ codeJoin := by
      rintro rfl
      simp [codeJoin] at hload
    exact hrefused (status := .mode) hjoin (execute_load_in_convert hmode hload)
  case fieldsMode =>
    subst hcode
    refine hrefused (status := .mode) (by decide) ?_
    rw [execute_loadFields, cmdLoadFields_of_right_length hcons hcount hright]
    exact if_pos (inConvert_of_mode hmode)
  case value =>
    subst hoperand
    obtain ⟨rfl, h1, h2⟩ | ⟨rfl, h0, h1⟩ := hchoice
    · exact hrefused (status := .badValue) (by decide) (if_neg (not_or.mpr ⟨h1, h2⟩))
    · exact hrefused (status := .badValue) (by decide) ((if_neg h0).trans (if_neg h1))

end Sys2Proof.Proofs
end

section
/-! The table loads (chapter 8.3): the words of an operand, clamping and repair, the settings' ranges and the placements' value check,
with the obligations O17 to O20. -/

namespace Sys2Proof.Machine

open Sys2Proof.Safety

/-! The words of an operand (R199, R206), and lists given by a function of the place. -/

theorem words16_eq_map (operand : List Byte) :
    words16 operand = (List.range (operand.length / 2)).map (wordAt operand) := by
  induction operand using words16.induct with
  | case1 hi lo rest ih =>
    have hlen : (hi :: lo :: rest).length / 2 = rest.length / 2 + 1 := by
      simp only [List.length_cons]
      omega
    rw [hlen, List.range_succ_eq_map, List.map_cons, List.map_map, words16, ih]
    congr 1
    simp [readBe, wordAt, Nat.mul_comm]
  | case2 bs hshort =>
    rcases bs with _ | ⟨hi, _ | ⟨lo, rest⟩⟩
    · rfl
    · simp [words16]
    · exact absurd rfl (hshort hi lo rest)

theorem changedCount_map (f g : Nat → Nat) (l : List Nat) :
    changedCount (l.map f) (l.map g) = (l.filter (fun k => decide (f k ≠ g k))).length := by
  rw [changedCount, List.zip_map', List.filter_map, List.length_map]
  rfl

/-! Clamping and repair of the density table (R38). -/

/-- The smallest of a bound and the values up to place k. -/
def leastUpTo (bound : Nat) (f : Nat → Nat) (k : Nat) : Nat := (List.range (k + 1)).foldl (fun m j => min m (f j)) bound

theorem leastUpTo_zero (bound : Nat) (f : Nat → Nat) : leastUpTo bound f 0 = min bound (f 0) := rfl

theorem leastUpTo_succ (bound : Nat) (f : Nat → Nat) (k : Nat) :
    leastUpTo bound f (k + 1) = min (leastUpTo bound f k) (f (k + 1)) := by
  rw [leastUpTo, List.range_succ, List.foldl_append]
  rfl

theorem leastUpTo_shift (bound : Nat) (f : Nat → Nat) (k : Nat) :
    leastUpTo bound f (k + 1) = leastUpTo (min bound (f 0)) (fun j => f (j + 1)) k := by
  rw [leastUpTo, List.range_succ_eq_map, List.foldl_cons, List.foldl_map]
  rfl

theorem leastUpTo_le_bound (bound : Nat) (f : Nat → Nat) (k : Nat) : leastUpTo bound f k ≤ bound := by
  induction k with
  | zero => exact min_le_left _ _
  | succ k ih => exact (leastUpTo_succ bound f k).le.trans ((min_le_left _ _).trans ih)

theorem leastUpTo_le (bound : Nat) (f : Nat → Nat) (k : Nat) : leastUpTo bound f k ≤ f k := by
  cases k with
  | zero => exact min_le_right _ _
  | succ k => exact (leastUpTo_succ bound f k).le.trans (min_le_right _ _)

/-- Clamping to the bound first changes no smallest value. -/
theorem leastUpTo_clamped (bound : Nat) (f : Nat → Nat) (k : Nat) :
    leastUpTo bound (fun j => min (f j) bound) k = leastUpTo bound f k := by
  induction k with
  | zero =>
    rw [leastUpTo_zero, leastUpTo_zero]
    omega
  | succ k ih =>
    have hbound := leastUpTo_le_bound bound f k
    rw [leastUpTo_succ, leastUpTo_succ, ih]
    omega

theorem repairFrom_map_range (bound : Nat) (f : Nat → Nat) (n : Nat) :
    repairFrom bound ((List.range n).map f) = (List.range n).map (leastUpTo bound f) := by
  induction n generalizing bound f with
  | zero => rfl
  | succ n ih =>
    rw [List.range_succ_eq_map, List.map_cons, List.map_cons, List.map_map, List.map_map, repairFrom, min_comm]
    refine congrArg (List.cons _) ((ih _ (fun j => f (j + 1))).trans (List.map_congr_left fun k _ => ?_))
    exact (leastUpTo_shift bound f k).symm

theorem repairTable_eq_repairFrom {bound : Nat} {vs : List Nat} (h : ∀ v ∈ vs, v ≤ bound) :
    repairTable vs = repairFrom bound vs := by
  cases vs with
  | nil => rfl
  | cons v vs => rw [repairTable, repairFrom, min_eq_left (h v List.mem_cons_self)]

theorem clampDensity_map (f : Nat → Nat) (l : List Nat) : clampDensity (l.map f) = l.map (fun k => min (f k) 400) :=
  List.map_map

theorem repairTable_clampDensity (f : Nat → Nat) (n : Nat) :
    repairTable (clampDensity ((List.range n).map f)) = (List.range n).map (leastUpTo 400 f) := by
  have hle : ∀ v ∈ clampDensity ((List.range n).map f), v ≤ 400 := by simp [clampDensity]
  rw [repairTable_eq_repairFrom hle, clampDensity_map, repairFrom_map_range]
  exact List.map_congr_left fun k _ => leastUpTo_clamped 400 f k

theorem getD_map_range {α : Type} (f : Nat → α) {n k : Nat} (h : k < n) (d : α) : ((List.range n).map f).getD k d = f k := by
  simp [List.getD, h]

/-! The settings' ranges (R173, R174). -/

theorem clamp_eq {range : Nat × Nat} (h : range.1 ≤ range.2) (v : Nat) : clamp range v = max range.1 (min v range.2) := by
  unfold clamp
  split_ifs <;> omega

theorem clampSettings_map_range (f : Nat → Nat) :
    clampSettings ((List.range 18).map f) =
      (List.range 18).map (fun k => max (settingRanges.getD k (0, 0)).1 (min (f k) (settingRanges.getD k (0, 0)).2)) := by
  have hranges : settingRanges = (List.range 18).map (fun k => settingRanges.getD k (0, 0)) := by decide
  have hle : ∀ k ∈ List.range 18, (settingRanges.getD k (0, 0)).1 ≤ (settingRanges.getD k (0, 0)).2 := by decide
  unfold clampSettings
  conv_lhs => rw [hranges]
  rw [List.zipWith_map, List.zipWith_self]
  exact List.map_congr_left fun k hk => clamp_eq (hle k hk) (f k)

/-! Patterns (R113). -/

theorem emptyPatterns_map_range (f : Nat → Pattern) (n : Nat) :
    emptyPatterns ((List.range (n + 1)).map f) =
      ((List.range (n + 1)).filter (fun k => decide (k ≠ 0 ∧ f k = 0#12))).length := by
  rw [emptyPatterns, List.range_succ_eq_map, List.map_cons, List.drop_succ_cons, List.drop_zero,
    List.filter_cons_of_neg (by simp), List.map_map, List.filter_map, List.filter_map, List.length_map, List.length_map]
  congr 2
  funext k
  simp [Bool.beq_eq_decide_eq]

/-! Placements (R107, R108). -/

/-- The placement of an operand at place k. -/
def placementAt (body : List Byte) (k : Nat) : RawPlacement :=
  { field := body.getD (4 * k) 0#8, first := body.getD (4 * k + 1) 0#8, width := body.getD (4 * k + 2) 0#8
    justify := body.getD (4 * k + 3) 0#8 }

theorem readPlacements_eq_map (n : Nat) (body : List Byte) (h : body.length = 4 * n) :
    readPlacements body = (List.range n).map (placementAt body) := by
  induction n generalizing body with
  | zero => rw [List.eq_nil_of_length_eq_zero h]; rfl
  | succ n ih =>
    match body, h with
    | f :: c :: w :: j :: rest, h =>
      have hrest : rest.length = 4 * n := by
        simp only [List.length_cons] at h
        omega
      rw [List.range_succ_eq_map, List.map_cons, List.map_map, readPlacements, ih rest hrest]
      rfl

theorem fieldOf_eq (b : Byte) :
    fieldOf b =
      if b.toNat ≤ 5 then some ([Field.drawing, .sheet, .revision, .title, .frameRef, .note].getD b.toNat .drawing)
      else none := by
  revert b
  decide

theorem justificationOf_eq (b : Byte) :
    justificationOf b = if b.toNat ≤ 1 then some (if b.toNat = 0 then .left else .right) else none := by
  revert b
  decide

/-- The value check of a placement (R108). -/
abbrev placementGood (p : RawPlacement) : Prop :=
  p.field.toNat ≤ 5 ∧ 1 ≤ p.first.toNat ∧ p.first.toNat ≤ 80 ∧ 1 ≤ p.width.toNat ∧ p.justify.toNat ≤ 1

/-- A placement that passes its value check, cut to end at column 80 (R107). -/
def fitted (p : RawPlacement) : Placement :=
  { field := [Field.drawing, .sheet, .revision, .title, .frameRef, .note].getD p.field.toNat .drawing
    first := p.first.toNat, width := min p.width.toNat (81 - p.first.toNat)
    justify := if p.justify.toNat = 0 then .left else .right }

theorem fitPlacement_eq (p : RawPlacement) : fitPlacement p = if placementGood p then some (fitted p) else none := by
  unfold fitPlacement
  rw [fieldOf_eq, justificationOf_eq]
  by_cases hfield : p.field.toNat ≤ 5 <;> by_cases hjustify : p.justify.toNat ≤ 1
  · simp [hfield, hjustify, placementGood, fitted]
  · simp [hfield, hjustify, placementGood]
  · simp [hfield, placementGood]
  · simp [hfield, placementGood]

theorem fitPlacements_of_good {pos : Nat} {raw : List RawPlacement} (h : ∀ p ∈ raw, placementGood p) :
    fitPlacements pos raw = .ok (raw.map fitted) := by
  induction raw generalizing pos with
  | nil => rfl
  | cons p rest ih =>
    obtain ⟨hp, hrest⟩ := List.forall_mem_cons.mp h
    rw [fitPlacements, fitPlacement_eq, if_pos hp, ih hrest]
    rfl

theorem fitPlacements_of_first_bad {f : Nat → RawPlacement} {n k : Nat} (pos : Nat) (hk : k < n) (hbad : ¬placementGood (f k))
    (hgood : ∀ j < k, placementGood (f j)) :
    fitPlacements pos ((List.range n).map f) = .error (pos + k) := by
  induction k generalizing n f pos with
  | zero =>
    obtain ⟨n, rfl⟩ := Nat.exists_eq_succ_of_ne_zero hk.ne'
    rw [List.range_succ_eq_map, List.map_cons, fitPlacements, fitPlacement_eq, if_neg hbad]
    rfl
  | succ k ih =>
    obtain ⟨n, rfl⟩ := Nat.exists_eq_succ_of_ne_zero (Nat.ne_zero_of_lt hk)
    rw [List.range_succ_eq_map, List.map_cons, List.map_map, fitPlacements, fitPlacement_eq,
      if_pos (hgood 0 (Nat.succ_pos k)),
      ih (f := f ∘ Nat.succ) (pos + 1) (Nat.lt_of_succ_lt_succ hk) hbad fun j hj => hgood (j + 1) (Nat.succ_lt_succ hj)]
    simp only [Except.error.injEq]
    omega

theorem inConvert_of_pass {s : State} (h : s.line.mode = .pass) : inConvert s = false := by
  rw [inConvert, h]
  rfl

end Sys2Proof.Machine

namespace Sys2Proof.Proofs

open Sys2Proof.Machine Sys2Proof.Safety

/-- Settles O17: the repaired table is the smallest value up to each point, by `repairTable_clampDensity`. -/
theorem loadDensityTaken : Obligations.LoadDensityTaken := by
  intro s dst src operand h hmode hlen table clamped repaired t
  have hwords : words16 operand = (List.range 65).map (wordAt operand) := by rw [words16_eq_map, hlen]
  have htable : repairTable (clampDensity (words16 operand)) = table := by
    rw [hwords]
    exact repairTable_clampDensity _ 65
  have hclamped : changedCount (words16 operand) (clampDensity (words16 operand)) = clamped := by
    rw [hwords, clampDensity_map, changedCount_map]
    refine congrArg List.length (List.filter_congr fun k _ => decide_eq_decide.mpr ?_)
    omega
  have hrepaired : changedCount (clampDensity (words16 operand)) (repairTable (clampDensity (words16 operand))) = repaired := by
    rw [hwords, repairTable_clampDensity, clampDensity_map, changedCount_map]
    refine congrArg List.length (List.filter_congr fun k hk => decide_eq_decide.mpr ?_)
    have hbound := leastUpTo_le_bound 400 (wordAt operand) k
    have hvalue := leastUpTo_le 400 (wordAt operand) k
    have hget : table.getD k 0 = leastUpTo 400 (wordAt operand) k := getD_map_range _ (List.mem_range.mp hk) 0
    rw [hget]
    omega
  refine exec_answer rfl (by omega) h (by decide) (status := .ok) ?_
  rw [execute_loadDensity, cmdLoadDensity, if_neg (not_not.mpr hlen),
    if_neg (by rw [show inConvert (reservePlace (sorted s)) = false from inConvert_of_pass hmode]; exact Bool.false_ne_true)]
  dsimp only
  rw [hclamped, hrepaired, htable]
  rfl

/-- Settles O18: the clamped values by `clampSettings_map_range`, then the settings and their consistency. -/
theorem loadSettingsTaken : Obligations.LoadSettingsTaken := by
  intro s dst src operand h hmode hlen range v failing clamped
  have hwords : words16 operand = (List.range 18).map (wordAt operand) := by rw [words16_eq_map, hlen]
  have hvalues : clampSettings (words16 operand) = (List.range 18).map v := by
    rw [hwords]
    exact clampSettings_map_range _
  have hclamped : changedCount (words16 operand) ((List.range 18).map v) = clamped := by
    rw [hwords, changedCount_map]
    exact congrArg List.length (List.filter_congr fun k _ => decide_eq_decide.mpr ne_comm)
  have hcmd (w : Settings) (hw : settingsOf ((List.range 18).map v) = some w) :
      execute src 0x11#8 operand (reservePlace (sorted s)) =
        if inconsistency w ≠ 0 then reply src codeLoadSettings .badValue (be8 (inconsistency w)) (reservePlace (sorted s))
        else reply src codeLoadSettings .ok (be8 clamped) { reservePlace (sorted s) with command.settings := w } := by
    rw [execute_loadSettings, cmdLoadSettings, if_neg (not_not.mpr hlen),
      if_neg (by rw [show inConvert (reservePlace (sorted s)) = false from inConvert_of_pass hmode]; exact Bool.false_ne_true)]
    dsimp only
    rw [hvalues, hw, hclamped]
  refine ⟨fun hfails => ?_, fun hholds => ?_⟩
  · refine exec_answer rfl (by omega) h (by decide) (status := .badValue) (t := reservePlace (sorted s)) ?_
    rw [hcmd _ rfl]
    exact if_pos hfails
  · refine exec_answer rfl (by omega) h (by decide) (status := .ok)
      (t := reservePlace { sorted s with command.settings := _ }) ?_
    rw [hcmd _ rfl]
    exact if_neg (not_not.mpr hholds)

/-- Settles O19: the patterns are the low bits of the words of the operand. -/
theorem loadPunchTaken : Obligations.LoadPunchTaken := by
  intro s dst src operand h hmode hlen punch empties
  have hpunch : readPatterns operand = punch := by
    rw [readPatterns, words16_eq_map, hlen, List.map_map]
    rfl
  have hempties : emptyPatterns punch = empties := by
    refine (emptyPatterns_map_range _ 63).trans
      (congrArg List.length (List.filter_congr fun k hk => decide_eq_decide.mpr (and_congr_right fun _ => ?_)))
    rw [show punch.getD k 0#12 = BitVec.ofNat 12 (wordAt operand k) from getD_map_range _ (List.mem_range.mp hk) _]
  refine exec_answer rfl (by omega) h (by decide) (status := .ok)
    (t := reservePlace { sorted s with composer.punch := punch }) ?_
  rw [execute_loadPunch, cmdLoadPunch, if_neg (not_not.mpr hlen),
    if_neg (by rw [show inConvert (reservePlace (sorted s)) = false from inConvert_of_pass hmode]; exact Bool.false_ne_true)]
  dsimp only
  have hspace : flag8 (punch.getD 0 0#12 == 0#12) = [if punch.getD 0 0#12 = 0#12 then 1#8 else 0#8] := by
    by_cases hzero : punch.getD 0 0#12 = 0#12
    · rw [if_pos hzero, beq_iff_eq.mpr hzero]
      rfl
    · rw [if_neg hzero, beq_eq_false_iff_ne.mpr hzero]
      rfl
  rw [hpunch, hempties, hspace]
  rfl

/-- Settles O20: `fitPlacements` stops at the first placement that fails its value check, and fits all otherwise. -/
theorem loadFieldsTaken : Obligations.LoadFieldsTaken := by
  intro s dst src count body h hmode hcount hlen item good fields
  have hoperand : (count :: body).length ≤ 319 := by
    rw [List.length_cons]
    omega
  have hraw : readPlacements body = (List.range count.toNat).map (placementAt body) := readPlacements_eq_map _ body hlen
  have hcmd : execute src 0x13#8 (count :: body) (reservePlace (sorted s)) =
      match fitPlacements 1 (readPlacements body) with
      | .error pos => reply src codeLoadFields .badValue (be8 pos) (reservePlace (sorted s))
      | .ok map =>
        reply src codeLoadFields .ok (be8 map.length ++ be8 ((readPlacements body).filter isReduced).length)
          { reservePlace (sorted s) with composer.fieldMap := map } := by
    rw [execute_loadFields,
      cmdLoadFields_of_right_length (List.cons_ne_nil _ _) (by exact hcount) (by rw [List.length_cons, hlen, Nat.add_comm]; rfl)]
    rw [loadPlacements, show inConvert (reservePlace (sorted s)) = false from inConvert_of_pass hmode]
    rfl
  refine ⟨fun k hk hbad hgood => ?_, fun hgood => ?_⟩
  · have hfit : fitPlacements 1 (readPlacements body) = .error (k + 1) := by
      rw [hraw, fitPlacements_of_first_bad 1 hk hbad hgood, Nat.add_comm]
    refine exec_answer rfl hoperand h (by decide) (status := .badValue) (t := reservePlace (sorted s)) ?_
    rw [hcmd, hfit]
    rfl
  · have hfit : fitPlacements 1 (readPlacements body) = .ok ((List.range count.toNat).map (fitted ∘ placementAt body)) := by
      rw [hraw, fitPlacements_of_good, List.map_map]
      intro p hp
      obtain ⟨k, hk, rfl⟩ := List.mem_map.mp hp
      exact hgood k (List.mem_range.mp hk)
    refine exec_answer rfl hoperand h (by decide) (status := .ok)
      (t := reservePlace { sorted s with composer.fieldMap := (List.range count.toNat).map (fitted ∘ placementAt body) }) ?_
    rw [hcmd, hfit, hraw, List.filter_map, List.length_map]
    dsimp only
    rw [List.length_map, List.length_range]
    have hcode : be8 count.toNat = [count] := by simp [be8]
    rw [hcode]
    rfl

end Sys2Proof.Proofs
end

section
/-! The drawing list (chapter 3): the bytes of a LIST_APPEND operand, the checks of an append in their order, and what an
accepted one does, with the obligations O21 to O23. -/

namespace Sys2Proof.Machine

open Sys2Proof.Safety

/-! The operand of LIST_APPEND and its bytes (R53, R207). -/

theorem be8_toNat (b : Byte) : be8 b.toNat = [b] := by simp [be8]

theorem be16_readBe (hi lo : Byte) : be16 (readBe [hi, lo]) = [hi, lo] := by
  have hhi := hi.isLt
  have hlo := lo.isLt
  have hvalue : readBe [hi, lo] = 256 * hi.toNat + lo.toNat := by simp [readBe, Nat.mul_comm]
  rw [hvalue, be16]
  refine congrArg₂ List.cons (BitVec.eq_of_toNat_eq ?_) (congrArg₂ List.cons (BitVec.eq_of_toNat_eq ?_) rfl) <;>
    rw [BitVec.toNat_ofNat] <;> omega

theorem readBe_pair_lt (hi lo : Byte) : readBe [hi, lo] < 65536 := by
  have hhi := hi.isLt
  have hlo := lo.isLt
  simp only [readBe, List.foldl_cons, List.foldl_nil]
  omega

theorem readText_append {text : List Byte} (h : text.length ≤ 255) (rest : List Byte) :
    readText (be8 text.length ++ text ++ rest) = some (text, rest) := by
  have hcode : (BitVec.ofNat 8 text.length).toNat = text.length := by
    rw [BitVec.toNat_ofNat]
    omega
  simp [be8, readText, hcode]

theorem readText_eq_some {bs text rest : List Byte} (h : readText bs = some (text, rest)) :
    bs = be8 text.length ++ text ++ rest := by
  cases bs with
  | nil => nomatch h
  | cons len tail =>
    rw [readText] at h
    split_ifs at h with hlen
    obtain ⟨rfl, rfl⟩ := Prod.mk.inj (Option.some.inj h)
    simp [List.length_take, Nat.min_eq_left hlen, be8_toNat]

theorem readEntry_entryBytes {e : RawEntry} (hdrawing : e.drawing.length ≤ 255) (hrevision : e.revision.length ≤ 255)
    (hsheets : e.sheetCount ≤ 255) (htitle : e.title.length ≤ 255) (rest : List Byte) :
    readEntry (entryBytes e ++ rest) = some (e, rest) := by
  have hcode : (BitVec.ofNat 8 e.sheetCount).toNat = e.sheetCount := by
    rw [BitVec.toNat_ofNat]
    omega
  have hbytes : entryBytes e ++ rest =
      be8 e.drawing.length ++ e.drawing ++ (be8 e.revision.length ++ e.revision ++
        (BitVec.ofNat 8 e.sheetCount :: (be8 e.title.length ++ e.title ++ rest))) := by
    simp [entryBytes, be8]
  rw [hbytes]
  unfold readEntry
  simp only [readText_append hdrawing, readText_append hrevision, readText_append htitle, hcode]

theorem readEntry_eq_some {bs rest : List Byte} {e : RawEntry} (h : readEntry bs = some (e, rest)) :
    bs = entryBytes e ++ rest := by
  unfold readEntry at h
  split at h
  · nomatch h
  next drawing bs1 hdrawing =>
    split at h
    · nomatch h
    · nomatch h
    next revision sheets bs2 hrevision =>
      split at h
      · nomatch h
      next title tail htitle =>
        obtain ⟨rfl, rfl⟩ := Prod.mk.inj (Option.some.inj h)
        rw [readText_eq_some hdrawing, readText_eq_some hrevision, readText_eq_some htitle]
        simp [entryBytes, be8_toNat]

theorem readEntries_entryBytes {es : List RawEntry}
    (h : ∀ e ∈ es, e.drawing.length ≤ 255 ∧ e.revision.length ≤ 255 ∧ e.sheetCount ≤ 255 ∧ e.title.length ≤ 255) :
    readEntries es.length (es.flatMap entryBytes) = some es := by
  induction es with
  | nil => rfl
  | cons e es ih =>
    obtain ⟨⟨hdrawing, hrevision, hsheets, htitle⟩, hes⟩ := List.forall_mem_cons.mp h
    rw [List.length_cons, List.flatMap_cons, readEntries, readEntry_entryBytes hdrawing hrevision hsheets htitle]
    simp only [ih hes]

theorem readEntries_eq_some {n : Nat} {bs : List Byte} {es : List RawEntry} (h : readEntries n bs = some es) :
    es.length = n ∧ bs = es.flatMap entryBytes := by
  induction n generalizing bs es with
  | zero =>
    cases bs with
    | nil => exact Option.some.inj h ▸ ⟨rfl, rfl⟩
    | cons b bs => nomatch h
  | succ n ih =>
    rw [readEntries] at h
    split at h
    · nomatch h
    next e rest hentry =>
      split at h
      · nomatch h
      next es' hrest =>
        obtain rfl := Option.some.inj h
        obtain ⟨hlen, hbytes⟩ := ih hrest
        exact ⟨congrArg Nat.succ hlen, by rw [readEntry_eq_some hentry, hbytes, List.flatMap_cons]⟩

/-! What an append changes in the bytes (R55), and the checks (R54). -/

theorem foldByte_eq (b : Byte) :
    foldByte b =
      if 0x20 ≤ b.toNat ∧ b.toNat ≤ 0x5F then b
      else if 0x61 ≤ b.toNat ∧ b.toNat ≤ 0x7A then BitVec.ofNat 8 (b.toNat - 0x20)
      else 0x3F#8 := by
  have hsub (h : 0x61 ≤ b.toNat) : b - 0x20#8 = BitVec.ofNat 8 (b.toNat - 0x20) := by
    have hb := b.isLt
    refine BitVec.eq_of_toNat_eq ?_
    rw [BitVec.toNat_sub_of_le (by rw [BitVec.le_def]; exact le_trans (by decide) h), BitVec.toNat_ofNat]
    exact (Nat.mod_eq_of_lt (by omega)).symm
  unfold foldByte
  split_ifs with hkeep hlower
  · rfl
  · exact hsub hlower.1
  · rfl

/-- A byte is replaced exactly when it folds to the question mark without being one. -/
theorem isSubstituted_eq (b : Byte) : isSubstituted b = decide (foldByte b = 0x3F#8 ∧ b ≠ 0x3F#8) := by
  revert b
  decide

theorem substitutions_sum (es : List RawEntry) :
    (es.map substitutions).sum =
      ((es.flatMap (fun e => e.drawing ++ e.revision ++ e.title)).filter
        (fun b => decide (foldByte b = 0x3F#8 ∧ b ≠ 0x3F#8))).length := by
  have hfilter : isSubstituted = fun b => decide (foldByte b = 0x3F#8 ∧ b ≠ 0x3F#8) := funext isSubstituted_eq
  rw [← hfilter, List.filter_flatMap, List.length_flatMap]
  rfl

theorem convertEntries_eq_map (first : Nat) (es : List RawEntry) :
    convertEntries first es = es.zipIdx.map (fun p => convertEntry ((first + p.2) % 65536) p.1) := by
  suffices h : ∀ i, convertEntries (first + i) es = (es.zipIdx i).map (fun p => convertEntry ((first + p.2) % 65536) p.1) from h 0
  induction es with
  | nil => exact fun i => rfl
  | cons e es ih =>
    intro i
    rw [convertEntries, List.zipIdx_cons, List.map_cons, Nat.add_assoc, ih]

theorem entryValid_iff (e : RawEntry) :
    entryValid e = true ↔ 1 ≤ e.drawing.length ∧ e.drawing.length ≤ 24 ∧ e.revision.length ≤ 3 ∧ e.title.length ≤ 40 ∧
      1 ≤ e.sheetCount ∧ e.sheetCount ≤ 32 := decide_eq_true_iff

theorem firstInvalid_append (pos : Nat) {before : List RawEntry} {e : RawEntry} (after : List RawEntry)
    (hbefore : ∀ x ∈ before, entryValid x = true) (he : entryValid e = false) :
    firstInvalid pos (before ++ e :: after) = some (pos + before.length) := by
  induction before generalizing pos with
  | nil => exact if_neg (by simp [he])
  | cons x xs ih =>
    obtain ⟨hx, hxs⟩ := List.forall_mem_cons.mp hbefore
    rw [List.cons_append, firstInvalid, if_pos hx, ih _ hxs, List.length_cons]
    congr 1
    omega

theorem firstInvalid_of_valid {es : List RawEntry} (h : ∀ e ∈ es, entryValid e = true) (pos : Nat) :
    firstInvalid pos es = none := (firstInvalid_eq_none_iff pos es).mpr h

/-- A late binding as the statements write it: beyond the entry's sheet count the slot is an EXTRA exception (R88). -/
theorem bindSlot_eq (e : Entry) (serial : Nat) (x : Slot) :
    bindSlot e serial x =
      match x.body with
      | .card (.unbound k sheet) g =>
        if k = serial then { x with body := .card (if sheet ≤ e.sheetCount then .bound e serial sheet else .except .extra) g }
        else x
      | .card (.bound _ k sheet) g =>
        if k = serial then { x with body := .card (if sheet ≤ e.sheetCount then .bound e serial sheet else .except .extra) g }
        else x
      | _ => x := by
  have hswap (sheet : Nat) : (if e.sheetCount < sheet then Binding.except .extra else .bound e serial sheet) =
      if sheet ≤ e.sheetCount then .bound e serial sheet else .except .extra := by
    by_cases h : sheet ≤ e.sheetCount
    · rw [if_pos h, if_neg (not_lt.mpr h)]
    · rw [if_neg h, if_pos (not_le.mp h)]
  simp only [bindSlot, hswap] <;> rfl

/-- With LIST telling whether an unbound drawing is open the report changes nothing (R138). -/
theorem reportList_of_told {s : State} (h : s.output.halt.list = openUnbound s.matching) : reportList s = s :=
  requestHalt_of_has h

theorem haltLaw_list_openUnbound {s : State} (hs : haltLaw s) : s.output.halt.list = openUnbound s.matching :=
  hs.1.trans (openUnbound_eq s.matching).symm

end Sys2Proof.Machine

namespace Sys2Proof.Proofs

open Sys2Proof.Machine Sys2Proof.Safety

/-- Settles O21: texts, entries and their count, each read back and laid out. -/
theorem appendOperandRoundTrip : Obligations.AppendOperandRoundTrip := by
  refine ⟨fun first es hfirst hone hmany hes => ?_, fun operand first es h => ?_⟩
  · have hcount : (BitVec.ofNat 8 es.length).toNat = es.length := by
      rw [BitVec.toNat_ofNat]
      omega
    have hnumber : readBe (be16 first) = first := (readBe_be16 first).trans (Nat.mod_eq_of_lt hfirst)
    have hoperand : be16 first ++ be8 es.length ++ es.flatMap entryBytes =
        BitVec.ofNat 8 (first / 256) :: BitVec.ofNat 8 first :: BitVec.ofNat 8 es.length :: es.flatMap entryBytes := rfl
    rw [hoperand, readAppend, hcount, if_pos ⟨hone, hmany⟩, readEntries_entryBytes hes]
    exact congrArg (fun n => some (n, es)) hnumber
  · match operand, h with
    | hi :: lo :: count :: body, h =>
      rw [readAppend] at h
      split_ifs at h with hcount
      split at h
      · nomatch h
      next es' hes =>
        obtain ⟨rfl, rfl⟩ := Prod.mk.inj (Option.some.inj h)
        obtain ⟨hlen, hbody⟩ := readEntries_eq_some hes
        refine ⟨readBe_pair_lt hi lo, hlen ▸ hcount.1, hlen ▸ hcount.2, ?_⟩
        rw [be16_readBe, hlen, be8_toNat, ← hbody]
        rfl

/-- Settles O22: the checks pass, the entries join, and `bindAppended` binds exactly an open unbound drawing. -/
theorem appendAccepted : Obligations.AppendAccepted := by
  intro s dst src operand first es h hlaw hlen hread hgood hexpected hroom fold replaced bindTo joined next data
  have hfold : foldByte = fold := funext foldByte_eq
  have hreplaced : (es.map substitutions).sum = replaced := by
    rw [substitutions_sum, hfold]
  have hbindTo (e : Entry) (serial : Nat) : bindSlot e serial = bindTo e serial := funext (bindSlot_eq e serial)
  have hjoined : s.list.entries ++ convertEntries first es = joined := by
    rw [convertEntries_eq_map]
    simp only [convertEntry, hfold]
    rfl
  let after : State := reservePlace { sorted s with list := { entries := joined, expected := some next } }
  have hcmd : execute src 0x20#8 operand (reservePlace (sorted s)) =
      reply src codeListAppend .ok
        (be8 es.length ++ be16 replaced ++ flag8 (bindAppended after).1 ++
          be16 (reportList (bindAppended after).2).list.entries.length ++
          be16 ((reportList (bindAppended after).2).list.expected.getD 0)) (reportList (bindAppended after).2) := by
    have haccept : checkAppend src first es (reservePlace (sorted s)) = acceptAppend src first es (reservePlace (sorted s)) := by
      have hnumber : ¬(s.list.expected.isSome ∧ s.list.expected ≠ some first) := by
        rcases hexpected with hnone | hsome
        · simp [hnone]
        · simp [hsome]
      rw [checkAppend, firstInvalid_of_valid fun e he => (entryValid_iff e).mpr (hgood e he)]
      exact (if_neg hnumber).trans (if_neg (not_lt.mpr hroom))
    have hafter : { reservePlace (sorted s) with
        list.entries := (reservePlace (sorted s)).list.entries ++ convertEntries first es
        list.expected := some ((first + es.length) % 65536) } = after := by
      rw [show (reservePlace (sorted s)).list.entries = s.list.entries from rfl, hjoined]
      rfl
    rw [execute_listAppend, cmdListAppend, hread]
    dsimp only
    rw [haccept, acceptAppend, hafter, hreplaced]
  refine ⟨fun hbound => ?_, fun d e rest hopen hentry hhead => ?_⟩
  · have hbind : bindAppended after = (false, after) := by
      rcases bindAppended_cases after with ⟨d, e, rest, hopen, hentry, -⟩ | ⟨-, hsame⟩
      · exact absurd hentry (hbound d hopen)
      · exact hsame
    have hreport : reportList after = after := reportList_of_told (haltLaw_list_openUnbound hlaw)
    refine exec_answer rfl hlen h (by decide) (status := .ok) (t := after) ?_
    rw [hcmd, hbind, hreport]
    rfl
  · have hbind : bindAppended after = (true, bindLate d e (listLowTest { after with list.entries := rest })) := by
      rcases bindAppended_cases after with ⟨d', e', rest', hopen', -, hhead', hbind⟩ | ⟨hno | hno, -⟩
      · obtain rfl : d' = d := Option.some.inj (hopen'.symm.trans hopen)
        obtain ⟨rfl, rfl⟩ := List.cons.inj (hhead'.symm.trans hhead)
        exact hbind
      · exact absurd hentry (hno d hopen)
      · exact absurd (hhead.symm.trans hno) (List.cons_ne_nil _ _)
    have hreport : reportList (bindLate d e (listLowTest { after with list.entries := rest })) =
        requestHalt .list false (bindLate d e (listLowTest { after with list.entries := rest })) := by
      rw [reportList, openUnbound_eq, bindLate, release_matching_drawing]
      rfl
    have hlist : (requestHalt .list false (bindLate d e (listLowTest { after with list.entries := rest }))).list =
        { entries := rest, expected := some next } := by
      rw [requestHalt_list, bindLate, release_list]
      exact listLowTest_list _
    refine exec_answer rfl hlen h (by decide) (status := .ok) ?_
    rw [hcmd, hbind]
    dsimp only
    rw [hreport, hlist, bindLate, hbindTo]
    rfl

/-- Settles O23: the checks of an append in their order. -/
theorem appendRefused : Obligations.AppendRefused := by
  intro s dst src operand h hlen good
  have hvalid (e : RawEntry) : entryValid e = true ↔ good e := entryValid_iff e
  have hexec {status : Status} {data : List Byte}
      (hreply : cmdListAppend src operand (reservePlace (sorted s)) =
        reply src codeListAppend status data (reservePlace (sorted s))) :
      exec (.listAppend dst src operand) s =
        .next (arbitrated (answer dst src 0x20#8 operand (BitVec.ofNat 8 (statusCode status)) data s (sorted s))) :=
    exec_answer rfl hlen h (by decide) hreply
  refine ⟨fun hnone => hexec (status := .badLength) ?_, fun first es hread => ?_⟩
  · rw [cmdListAppend, hnone]
  have hcheck : cmdListAppend src operand (reservePlace (sorted s)) = checkAppend src first es (reservePlace (sorted s)) := by
    rw [cmdListAppend, hread]
  refine ⟨fun before e after hes hbefore he => hexec (status := .badValue) ?_, fun hgood => ⟨fun x hx hne => ?_, fun hnumber hfull => ?_⟩⟩
  · rw [hcheck, checkAppend, hes, firstInvalid_append 1 after (fun x hx => (hvalid x).mpr (hbefore x hx))
      (Bool.eq_false_iff.mpr fun htrue => he ((hvalid e).mp htrue)), Nat.add_comm]
  all_goals have hfirst := firstInvalid_of_valid (fun e he => (hvalid e).mpr (hgood e he)) 1
  · refine hexec (status := .sequence) ?_
    rw [hcheck, checkAppend, hfirst, show (reservePlace (sorted s)).list.expected = some x from hx]
    exact if_pos ⟨rfl, fun heq => hne (Option.some.inj heq)⟩
  · refine hexec (status := .listFull) ?_
    have hsequence : ¬(s.list.expected.isSome ∧ s.list.expected ≠ some first) := by
      rcases hnumber with hnone | hsome
      · simp [hnone]
      · simp [hsome]
    rw [hcheck, checkAppend, hfirst]
    exact (if_neg hsequence).trans (if_pos hfull)

end Sys2Proof.Proofs
end

section
/-! Bytes: a record and its check (7.1), the READ_STATUS reply (8.7) and the samples of a SCAN (2.2), with the obligations
O14, O27 and O37. -/

namespace Sys2Proof.Machine

open Sys2Proof.Safety

/-! The check register (R146). Fed with its own bits, most significant first, it comes to 0, and with no others: each bit
shifts the register, and a bit that differs from the top one sets the lowest. -/

theorem checkBit_eq (reg : BitVec 16) (bit : Bool) :
    checkBit reg bit = if reg.msb ≠ bit then (reg <<< 1) ^^^ 0x1021#16 else reg <<< 1 := by
  unfold checkBit
  cases reg.msb <;> cases bit <;> rfl

theorem checkOf_append (bs cs : List Byte) : checkOf (bs ++ cs) = cs.foldl checkByte (checkOf bs) := List.foldl_append

theorem checkByte_eq_foldl (reg : BitVec 16) (b : Byte) :
    checkByte reg b = ((List.range 8).map b.getMsbD).foldl checkBit reg := rfl

/-- The bits after a fed one: those after the top bit when it is the fed one, and otherwise not all as they should be. -/
theorem checkBit_bits_iff (reg : BitVec 16) (b : Bool) (f : Nat → Bool) (h : f 15 = false) :
    (∀ i < 16, (checkBit reg b).getMsbD i = f i) ↔ reg.msb = b ∧ ∀ i < 15, reg.getMsbD (i + 1) = f i := by
  have hshift (i : Nat) : (reg <<< 1).getMsbD i = reg.getMsbD (i + 1) := by
    rw [BitVec.getMsbD_shiftLeft, Nat.add_comm]
  by_cases hbit : reg.msb = b
  · rw [checkBit_eq, if_neg (not_not.mpr hbit)]
    simp only [hshift, hbit, true_and]
    refine ⟨fun hall i hi => hall i (by omega), fun hall i hi => ?_⟩
    obtain hlt | rfl := Nat.lt_succ_iff_lt_or_eq.mp hi
    · exact hall i hlt
    · rw [h]
      exact BitVec.getMsbD_of_ge _ _ (le_refl 16)
  · refine ⟨fun hall => ?_, fun ⟨heq, _⟩ => absurd heq hbit⟩
    have hlow := hall 15 (by decide)
    rw [checkBit_eq, if_pos hbit, BitVec.getMsbD_xor, hshift, BitVec.getMsbD_of_ge _ _ (le_refl 16), h] at hlow
    exact absurd hlow (by decide)

theorem foldl_checkBit_eq_zero_iff (bits : List Bool) (reg : BitVec 16) (h : bits.length ≤ 16) :
    bits.foldl checkBit reg = 0#16 ↔ ∀ i < 16, reg.getMsbD i = bits.getD i false := by
  induction bits generalizing reg with
  | nil =>
    rw [List.foldl_nil]
    exact ⟨fun hzero i _ => by simp [hzero], fun hall => BitVec.eq_of_getMsbD_eq fun i hi => by simpa using hall i hi⟩
  | cons b bits ih =>
    rw [List.length_cons] at h
    have hlast : bits.getD 15 false = false := by
      rw [List.getD_eq_getElem?_getD, List.getElem?_eq_none (by omega)]
      rfl
    rw [List.foldl_cons, ih _ (by omega), checkBit_bits_iff reg b (fun i => bits.getD i false) hlast]
    refine ⟨fun ⟨hmsb, hrest⟩ i hi => ?_, fun hall => ⟨hall 0 (by decide), fun i hi => hall (i + 1) (by omega)⟩⟩
    cases i with
    | zero => exact hmsb
    | succ i => exact hrest i (by omega)

theorem append_toNat (x y : Byte) : (x ++ y : BitVec 16).toNat = readBe [x, y] := by
  rw [BitVec.toNat_append, ← Nat.shiftLeft_add_eq_or_of_lt y.isLt]
  simp [readBe, Nat.shiftLeft_eq]

/-- After two bytes the register is 0 exactly when they are its own, high byte first. -/
theorem checkByte_checkByte_eq_zero_iff (reg : BitVec 16) (x y : Byte) :
    checkByte (checkByte reg x) y = 0#16 ↔ be16 reg.toNat = [x, y] := by
  have hbits : checkByte (checkByte reg x) y = ((List.range 16).map (x ++ y : BitVec 16).getMsbD).foldl checkBit reg := by
    have hhigh : (List.range 8).map (x ++ y : BitVec 16).getMsbD = (List.range 8).map x.getMsbD :=
      List.map_congr_left fun i hi => (BitVec.getMsbD_append (x := x) (y := y)).trans (if_neg (not_le.mpr (List.mem_range.mp hi)))
    have hlow : (List.range 8).map ((x ++ y : BitVec 16).getMsbD ∘ (8 + ·)) = (List.range 8).map y.getMsbD :=
      List.map_congr_left fun i _ =>
        ((BitVec.getMsbD_append (x := x) (y := y)).trans (if_pos (Nat.le_add_right 8 i))).trans (by rw [Nat.add_sub_cancel_left])
    rw [checkByte_eq_foldl, checkByte_eq_foldl, ← List.foldl_append, List.range_add (n := 8) (m := 8), List.map_append,
      List.map_map, hhigh, hlow]
  have hregister : checkByte (checkByte reg x) y = 0#16 ↔ reg = x ++ y := by
    rw [hbits, foldl_checkBit_eq_zero_iff _ _ (by simp)]
    refine ⟨fun hall => BitVec.eq_of_getMsbD_eq fun i hi => ?_, fun heq i hi => ?_⟩
    · rw [hall i hi, getD_map_range _ hi]
    · rw [heq, getD_map_range _ hi]
  have hnumber : readBe (be16 reg.toNat) = reg.toNat := (readBe_be16 _).trans (Nat.mod_eq_of_lt reg.isLt)
  rw [hregister]
  refine ⟨fun heq => ?_, fun heq => BitVec.eq_of_toNat_eq ?_⟩
  · rw [heq, append_toNat, be16_readBe]
  · rw [append_toNat, ← heq, hnumber]

theorem checkOf_with_check_iff (body : List Byte) (x y : Byte) :
    checkOf (body ++ [x, y]) = 0#16 ↔ be16 (checkOf body).toNat = [x, y] := by
  rw [checkOf_append]
  exact checkByte_checkByte_eq_zero_iff (checkOf body) x y

theorem parseRecord_recordBytes {r : Record} (h : r.payload.length ≤ 320) : parseRecord (recordBytes r) = some r := by
  have hlen : readBe (be16 r.payload.length) = r.payload.length := (readBe_be16 _).trans (Nat.mod_eq_of_lt (by omega))
  have hcheck : checkOf (headerBytes r ++ r.payload ++ be16 (checkOf (headerBytes r ++ r.payload)).toNat) = 0#16 :=
    (checkOf_with_check_iff _ _ _).mpr rfl
  have hbytes : recordBytes r =
      r.kind :: r.dst :: r.src :: BitVec.ofNat 8 (r.payload.length / 256) :: BitVec.ofNat 8 r.payload.length ::
        (r.payload ++ be16 (checkOf (headerBytes r ++ r.payload)).toNat) := rfl
  rw [hbytes, parseRecord, show readBe [BitVec.ofNat 8 (r.payload.length / 256), BitVec.ofNat 8 r.payload.length] =
    r.payload.length from hlen]
  rw [if_pos ⟨h, by rw [List.length_append, be16_length], hcheck⟩, List.take_left]

theorem parseRecord_eq_some {bytes : List Byte} {r : Record} (h : parseRecord bytes = some r) :
    r.payload.length ≤ 320 ∧ recordBytes r = bytes := by
  match bytes, h with
  | kind :: dst :: src :: lenHi :: lenLo :: rest, h =>
    rw [parseRecord] at h
    split_ifs at h with hgood
    obtain ⟨hlen, hrest, hcheck⟩ := hgood
    obtain rfl := Option.some.inj h
    set n := readBe [lenHi, lenLo] with hn
    obtain ⟨x, y, htail⟩ := List.length_eq_two.mp (show (rest.drop n).length = 2 by rw [List.length_drop]; omega)
    have hsplit : rest = rest.take n ++ [x, y] := by rw [← htail, List.take_append_drop]
    have hpayload : (rest.take n).length = n := by
      rw [List.length_take]
      omega
    have hheader : be16 (rest.take n).length = [lenHi, lenLo] := by rw [hpayload, hn, be16_readBe]
    have hbody : kind :: dst :: src :: lenHi :: lenLo :: rest =
        ([kind, dst, src] ++ be16 (rest.take n).length ++ rest.take n) ++ [x, y] := by
      rw [hheader]
      simp [← hsplit]
    refine ⟨hpayload.trans_le hlen, ?_⟩
    rw [hbody] at hcheck ⊢
    rw [recordBytes, headerBytes, (checkOf_with_check_iff _ x y).mp hcheck]

/-! The READ_STATUS reply (R209): its bytes are those of the items of `statusTable` one after another, and the items' offsets
are the sums of the sizes before them. -/

/-- A number in as many bytes, one to four, high byte first. -/
def numberBytes : Nat → Nat → List Byte
  | 1, value => be8 value
  | 2, value => be16 value
  | 3, value => be24 value
  | 4, value => be32 value
  | _, _ => []

/-- Offsets that start at one place and follow each other by sizes of one to four. -/
def followsFrom : Nat → List (Nat × Nat) → Bool
  | _, [] => true
  | at_, (offset, size) :: rest => offset == at_ && (1 ≤ size && size ≤ 4) && followsFrom (at_ + size) rest

theorem numberBytes_length {size : Nat} (h1 : 1 ≤ size) (h4 : size ≤ 4) (value : Nat) :
    (numberBytes size value).length = size := by
  match size, h1, h4 with
  | 1, _, _ => rfl
  | 2, _, _ => rfl
  | 3, _, _ => rfl
  | 4, _, _ => rfl

theorem readBe_numberBytes {size : Nat} (h1 : 1 ≤ size) (h4 : size ≤ 4) (value : Nat) :
    readBe (numberBytes size value) = value % 256 ^ size := by
  match size, h1, h4 with
  | 1, _, _ => exact readBe_be8 value
  | 2, _, _ => exact readBe_be16 value
  | 3, _, _ => exact readBe_be24 value
  | 4, _, _ => exact readBe_be32 value

/-- The bytes of a table's items one after another. -/
def tableBytes (table : List (Nat × Nat × Nat)) : List Byte := table.flatMap (fun x => numberBytes x.2.1 x.2.2)

theorem tableBytes_append (a b : List (Nat × Nat × Nat)) : tableBytes (a ++ b) = tableBytes a ++ tableBytes b :=
  List.flatMap_append

theorem readBe_tableBytes {table : List (Nat × Nat × Nat)} {at_ : Nat} {before : List Byte} (hat : before.length = at_)
    (h : followsFrom at_ (table.map (fun x => (x.1, x.2.1))) = true) {offset size value : Nat}
    (hitem : (offset, size, value) ∈ table) :
    readBe (((before ++ tableBytes table).drop offset).take size) = value % 256 ^ size := by
  induction table generalizing at_ before with
  | nil => nomatch hitem
  | cons x table ih =>
    obtain ⟨o, n, v⟩ := x
    simp only [List.map_cons, followsFrom, Bool.and_eq_true, beq_iff_eq, decide_eq_true_iff] at h
    obtain ⟨⟨rfl, h1, h4⟩, hrest⟩ := h
    have hlen := numberBytes_length h1 h4 v
    have hbytes : before ++ tableBytes ((o, n, v) :: table) = (before ++ numberBytes n v) ++ tableBytes table :=
      (List.append_assoc ..).symm
    obtain heq | hin := List.mem_cons.mp hitem
    · obtain ⟨rfl, rfl, rfl⟩ := heq
      rw [hbytes, List.append_assoc, ← hat, List.drop_left, List.take_left' hlen, readBe_numberBytes h1 h4]
    · rw [hbytes]
      exact ih (by rw [List.length_append, hat, hlen]) hrest hin

/-- The sizes and offsets of the reply, whatever the values. -/
theorem statusTable_follows (s : State) : followsFrom 0 ((statusTable s).map (fun x => (x.1, x.2.1))) = true := by
  simp [statusTable, followsFrom]

/-- A slot may leave as the layout writes it (R90). -/
theorem isReleasable_eq (m : MatchingEngine) (x : Slot) :
    isReleasable m x =
      match x.body, m.drawing with
      | .card (.bound _ serial _) _, some d => decide (serial ≠ d.serial)
      | .card (.unbound serial _) _, some d => decide (serial ≠ d.serial)
      | _, _ => true := by
  unfold isReleasable isCardOf slotSerial
  rcases x.body with reason | ⟨e, k, sheet⟩ | ⟨k, sheet⟩ | cause <;> cases m.drawing <;> simp

theorem haltBits_eq (h : HaltSet) :
    haltBits h = (if h.output then 1 else 0) + 2 * (if h.jam then 1 else 0) + 4 * (if h.list then 1 else 0) +
      8 * (if h.lost then 1 else 0) := by
  unfold haltBits bitAt
  cases h.output <;> cases h.jam <;> cases h.list <;> cases h.lost <;> rfl

/-- The bytes of READ_STATUS are those of the layout's items, section by section. -/
theorem statusData_eq (s : State) : statusData s = tableBytes (statusTable s) := by
  unfold statusData statusTable
  simp only [tableBytes_append]
  rw [statusCommand, ← List.append_assoc]
  refine congrArg₂ (· ++ ·) (congrArg₂ (· ++ ·) (congrArg₂ (· ++ ·) (congrArg₂ (· ++ ·) (congrArg₂ (· ++ ·) (congrArg₂ (· ++ ·)
    (congrArg₂ (· ++ ·) ?line ?tracker) ?density) ?list) ?matching) ?output) ?settings) rfl
  case line =>
    rw [statusLine, forwardUsed_eq]
    cases s.line.control.find? (fun c => c.halt) <;> rfl
  case tracker =>
    rw [statusTracker]
    cases s.tracker.reel <;> cases s.tracker.assembly <;> rfl
  case density =>
    rw [statusDensity]
    cases s.density.last <;> rfl
  case list =>
    rw [statusList, headNumber]
    cases s.list.entries <;> rfl
  case matching =>
    rw [statusMatching, List.filter_congr fun x _ => isReleasable_eq s.matching x]
    rcases s.matching.drawing with _ | ⟨serial, entry, seen⟩
    · rfl
    · cases entry <;> rfl
  case output =>
    rw [statusOutput, haltBits_eq]
    cases s.output.queue <;> cases s.output.inFlight <;> cases s.output.jam <;> rfl
  case settings => rfl

/-! The samples of a SCAN (R32, R34, R202). -/

theorem words16_flatMap_be16 (words : List (BitVec 16)) :
    words16 (words.flatMap (fun w => be16 w.toNat)) = words.map (fun w => w.toNat) := by
  induction words with
  | nil => rfl
  | cons w words ih =>
    have hword : readBe [BitVec.ofNat 8 (w.toNat / 256), BitVec.ofNat 8 w.toNat] = w.toNat :=
      (readBe_be16 w.toNat).trans (Nat.mod_eq_of_lt w.isLt)
    rw [List.flatMap_cons, be16, List.cons_append, List.cons_append, List.nil_append, words16, hword, ih, List.map_cons]

theorem flatMap_be16_length (words : List (BitVec 16)) : (words.flatMap (fun w => be16 w.toNat)).length = 2 * words.length := by
  rw [List.length_flatMap]
  simp [be16, Nat.mul_comm]

theorem w12Sample_toNat (w : BitVec 16) :
    w12Sample w.toNat = { value := (w &&& 0x0FFF#16).toNat * 16, invalid := w.msb } := by
  have hlow : (w &&& 0x0FFF#16).toNat = w.toNat % 4096 :=
    (BitVec.toNat_and w 0x0FFF#16).trans (Nat.and_two_pow_sub_one_eq_mod w.toNat 12)
  rw [w12Sample, hlow, BitVec.msb_eq_decide]

theorem readScan_of_good {format : SampleFormat} {n : Nat} {body : List Byte} (h8 : 8 ≤ n) (h64 : n ≤ 64)
    (hlen : body.length = sampleBytes format n) :
    readScan format (BitVec.ofNat 8 n :: body) = some (readSamples format n body) := by
  have hcount : (BitVec.ofNat 8 n).toNat = n := by
    rw [BitVec.toNat_ofNat]
    omega
  rw [readScan, hcount]
  exact if_pos ⟨h8, h64, hlen⟩

theorem readScan_eq_none_iff (format : SampleFormat) (payload : List Byte) :
    readScan format payload = none ↔
      payload = [] ∨ (payload.headD 0#8).toNat < 8 ∨ 64 < (payload.headD 0#8).toNat ∨
        payload.length ≠ 1 + sampleBytes format (payload.headD 0#8).toNat := by
  cases payload with
  | nil => exact iff_of_true rfl (.inl rfl)
  | cons count body =>
    simp only [readScan, ite_eq_right_iff, reduceCtorEq, imp_false, List.headD_cons, List.length_cons, false_or]
    omega

end Sys2Proof.Machine

namespace Sys2Proof.Proofs

open Sys2Proof.Machine Sys2Proof.Safety

/-- Settles O14: the bytes by unfolding, and the check by `checkOf_with_check_iff`. -/
theorem recordBytesRoundTrip : Obligations.RecordBytesRoundTrip := by
  refine ⟨fun n => ⟨rfl, rfl, ?_⟩, rfl, fun bytes b => ?_, fun r => rfl, fun r => parseRecord_recordBytes,
    fun bytes r => parseRecord_eq_some⟩
  · simp only [be32, be16, List.cons_append, List.nil_append, Nat.div_div_eq_div_mul]
  · rw [checkOf_append]
    simp only [List.foldl_cons, List.foldl_nil, ← checkBit_eq]
    rfl

/-- Settles O27: the reply is the items of the layout in order, so each stands at its offset. -/
theorem statusLayout : Obligations.StatusLayout := by
  refine fun s => ⟨?_, fun offset size value hitem => ?_⟩
  · rw [statusData_eq]
    rfl
  · rw [statusData_eq]
    exact readBe_tableBytes (before := []) rfl (statusTable_follows s) hitem

/-- Settles O37: the samples of a good scan line by the words of its body, and what makes a bad one. -/
theorem scanPayloadRead : Obligations.ScanPayloadRead := by
  refine ⟨fun words h8 h64 => ?_, fun bytes last h8 h64 => ?_, fun format payload => ?_⟩
  · have htake : (words16 (words.flatMap (fun w => be16 w.toNat))).take words.length = words.map (fun w => w.toNat) := by
      rw [words16_flatMap_be16, List.take_of_length_le (List.length_map _).le]
    refine ⟨?_, ?_⟩
    · rw [readScan_of_good h8 h64 (flatMap_be16_length words), readSamples, htake, List.map_map]
      rfl
    · rw [readScan_of_good h8 h64 (flatMap_be16_length words), readSamples, htake, List.map_map]
      exact congrArg some (List.map_congr_left fun w _ => w12Sample_toNat w)
  · have hlen : (bytes ++ if bytes.length % 2 = 1 then [last] else []).length = 2 * ((bytes.length + 1) / 2) := by
      rw [List.length_append]
      split_ifs
      · rw [List.length_singleton]
        omega
      · rw [List.length_nil]
        omega
    rw [readScan_of_good h8 h64 hlen, readSamples, List.take_left]
  · rw [readScan_eq_none_iff]
    cases format <;> simp only [sampleBytes]

end Sys2Proof.Proofs
end

section
/-! Film traffic (chapter 1): how a film record reaches the tracker, the terms of the statements for its operations, and what a
hand-over leaves of the tracker; with the obligations O30 to O32, O35, O36 and O41. -/

namespace Sys2Proof.Machine

open Sys2Proof.Safety

/-! A film record in CONVERT (R3, R154, R201). -/

section
variable {s : State} {src : Byte}

theorem exec_film {c : Instr} {kind : Byte} {payload : List Byte} {t : State}
    (hrecord : recordOf c = some ⟨kind, 66#8, src, payload⟩) (hlen : payload.length ≤ 320) (h : converting s src)
    (hroll : kind ≠ kindRoll) (hcommand : kind ≠ kindCommand) (hdone : kind ≠ kindDone)
    (htake : takeFilm ⟨kind, 66#8, src, payload⟩ (sorted s) = some t) : exec c s = .next (arbitrated t) := by
  obtain ⟨hlisten, hmode, hsrc⟩ := h
  rw [exec_of_recordOf hrecord, receive_of_member hlisten hlen (by rw [hmode]; decide),
    sortStored_film (r := ⟨kind, 66#8, src, payload⟩) (s := sorted s) hsrc (fun h => hroll h.1) (fun h => hcommand h.1) (fun h => hdone h.1), htake]
  rfl

theorem readBe_be24_toNat (counter : BitVec 24) : readBe (be24 counter.toNat) = counter.toNat :=
  (readBe_be24 _).trans (Nat.mod_eq_of_lt counter.isLt)

theorem exec_mark (h : converting s src) (cls : Byte) (counter : BitVec 24) :
    exec (.mark 66#8 src cls counter) s = .next (arbitrated (takeMark (markOf cls) counter.toNat (sorted s))) := by
  refine exec_film rfl (Nat.le_of_ble_eq_true rfl) h (by decide) (by decide) (by decide) ?_
  have hmode : (sorted s).line.mode = .convert := h.2.1
  simp [takeFilm, dstConverter, hmode, kindReel, kindMark, readBe_be24_toNat]

theorem exec_scan (h : converting s src) {payload : List Byte} (hlen : payload.length ≤ 320) :
    exec (.scan 66#8 src payload) s = .next (arbitrated (takeScan payload (sorted s))) := by
  refine exec_film rfl hlen h (by decide) (by decide) (by decide) ?_
  have hmode : (sorted s).line.mode = .convert := h.2.1
  simp [takeFilm, dstConverter, hmode, kindReel, kindMark, kindScan]

theorem exec_reelEnd (h : converting s src) : exec (.reelEnd 66#8 src) s = .next (arbitrated (takeReelEnd (sorted s))) := by
  refine exec_film rfl (Nat.zero_le _) h (by decide) (by decide) (by decide) ?_
  have hmode : (sorted s).line.mode = .convert := h.2.1
  simp [takeFilm, dstConverter, hmode, kindReel, kindMark, kindScan, kindReelEnd]

/-- The parameters of a reel brought into range (R5). -/
def reelOf (number : BitVec 16) (polarity format pitch : Byte) (counter : BitVec 24) : ReelParams :=
  { number := min number.toNat 9999
    polarity := if polarity = 1#8 then .positive else .negative
    format := if format = 1#8 then .w12 else if format = 2#8 then .w8p else .w16
    linePitch := max 1 (min pitch.toNat 20)
    counterAtLoad := counter.toNat }

theorem readReel_eq (number : BitVec 16) (polarity format pitch : Byte) (counter : BitVec 24) :
    readReel (be16 number.toNat ++ [polarity, format, pitch] ++ be24 counter.toNat) =
      reelOf number polarity format pitch counter := by
  have hnumber : readBe (be16 number.toNat) = number.toNat := (readBe_be16 _).trans (Nat.mod_eq_of_lt number.isLt)
  have hpitch : readBe [pitch] = pitch.toNat := by simp [readBe]
  have hfields : readReel (be16 number.toNat ++ [polarity, format, pitch] ++ be24 counter.toNat) =
      { number := min (readBe (be16 number.toNat)) 9999, polarity := polarityOf polarity, format := formatOf format
        linePitch := if readBe [pitch] = 0 then 1 else min (readBe [pitch]) 20
        counterAtLoad := readBe (be24 counter.toNat) } := rfl
  have hrange : (if pitch.toNat = 0 then 1 else min pitch.toNat 20) = max 1 (min pitch.toNat 20) := by
    split_ifs <;> omega
  rw [hfields, hnumber, hpitch, hrange, readBe_be24_toNat]
  rfl

theorem exec_reel (h : converting s src) (number : BitVec 16) (polarity format pitch : Byte) (counter : BitVec 24) :
    exec (.reel 66#8 src number polarity format pitch counter) s =
      .next (arbitrated (takeReel (reelOf number polarity format pitch counter) (sorted s))) := by
  refine exec_film rfl (Nat.le_of_ble_eq_true rfl) h (by decide) (by decide) (by decide) ?_
  have hmode : (sorted s).line.mode = .convert := h.2.1
  rw [takeFilm, if_pos ⟨rfl, hmode⟩, if_pos ⟨rfl, rfl⟩]
  exact congrArg (fun r => some (takeReel r (sorted s))) (readReel_eq number polarity format pitch counter)

end

/-! The terms of the statements. -/

theorem restartTimer_eq (s : State) : restartTimer s = restarted s := by
  unfold restartTimer restarted timerNeeded
  split_ifs <;> rfl

theorem restarted_of_nothing {s : State} (hassembly : s.tracker.assembly = none) (hdrawing : s.matching.drawing = none) :
    restarted s = { s with matching.flushTimer := none } := by
  simp [restarted, hassembly, hdrawing]

theorem closeAndRelease_eq (s : State) : closeAndRelease s = endDrawing s := by
  unfold endDrawing
  split_ifs with hnone
  · exact closeAndRelease_of_none hnone
  · obtain ⟨d, hsome⟩ := Option.ne_none_iff_exists'.mp hnone
    exact closeAndRelease_of_some hsome

theorem exhaust_eq (o : Occasion) (s : State) :
    exhaust o s = fullReel (match o with | .reelChange => .reelChange | _ => .exhausted) s := rfl

theorem closeAssembly_eq {o : Occasion} (ho : o = .live ∨ o = .reelChange) (p : PitchSource) (s : State) :
    closeAssembly o p s = closeFrame o p s := by
  unfold closeAssembly closeFrame routeFrame
  rcases s.tracker.assembly with _ | a
  · rfl
  · dsimp only
    by_cases hlast : s.tracker.frameCounter < 65535
    · rw [if_neg (show ¬lastFrameNumber ≤ _ from not_le.mpr hlast), if_pos hlast, afterClose_tracker_state]
    · rw [if_pos (show lastFrameNumber ≤ _ from not_lt.mp hlast), if_neg hlast, exhaust_eq]
      rcases ho with rfl | rfl <;> rfl

theorem endReel_eq (s : State) : endReel s = endOfReel s := by
  rw [endReel, closeAndRelease_eq, closeAssembly_eq (.inr rfl)]
  rfl

theorem takeSamples_eq_foldl (xs : List Sample) (s : State) : takeSamples xs s = xs.foldl (fun t x => takeSample x t) s := by
  induction xs generalizing s with
  | nil => rfl
  | cons x xs ih => exact ih _

/-! Reports of LIST that ask for nothing. -/

theorem reportList_of_listTold {s : State} (h : ListTold s) : reportList s = s :=
  reportList_of_told (h.trans (openUnbound_eq s.matching).symm)

theorem listTold_restarted {s : State} (h : ListTold s) : ListTold (restarted s) := h

theorem takeMark_eq_restarted {m : MarkClass} {c : Nat} {s : State} (h : ListTold (trackMark m c s)) :
    takeMark m c s = restarted (trackMark m c s) := by
  rw [takeMark, restartTimer_eq, reportList_of_listTold (listTold_restarted h)]

/-! A latch and a change of the tracker come to the same in either order. -/

theorem noticeTest_setTracker (cause : Option Event) (s : State) (t : FrameTracker) :
    noticeTest cause { s with tracker := t } = { noticeTest cause s with tracker := t } := by
  unfold noticeTest
  by_cases hfalls : noticeFalls s = true
  · rw [if_pos hfalls, if_pos (by exact hfalls)]
    rfl
  · rw [if_neg hfalls, if_neg (by exact hfalls)]

theorem occur_setTracker (e : Event) (s : State) (t : FrameTracker) :
    occur e { s with tracker := t } = { occur e s with tracker := t } := by
  unfold occur
  dsimp only
  split_ifs
  · exact noticeTest_setTracker (some e) { s with command.latched := s.command.latched ||| eventBit e } t
  · rfl

theorem occur_setState (e : Event) (s : State) (state : TrackerState) :
    { occur e s with tracker.state := state } = occur e { s with tracker.state := state } := by
  rw [occur_setTracker e s { s.tracker with state := state }]
  simp only [occur_tracker]

/-! What a hand-over leaves of the tracker (R24 to R26). -/

/-- The reel and the last mark stay, and nothing comes into assembly. -/
structure SameReel (s t : State) : Prop where
  reel : t.tracker.reel = s.tracker.reel
  lastMark : t.tracker.lastMark = s.tracker.lastMark
  assembly : s.tracker.assembly = none → t.tracker.assembly = none

namespace SameReel

variable {s t u : State}

theorem refl (s : State) : SameReel s s := ⟨rfl, rfl, id⟩

theorem trans (h : SameReel s t) (k : SameReel t u) : SameReel s u :=
  ⟨k.reel.trans h.reel, k.lastMark.trans h.lastMark, k.assembly ∘ h.assembly⟩

theorem takeLoss (o : Occasion) (f : ClosedFrame) (s : State) : SameReel s (takeLoss o f s) := by
  cases o with
  | live => constructor <;> simp [Machine.takeLoss, loseFrame, noteLoss]
  | reelChange => constructor <;> simp [Machine.takeLoss, noteLoss]
  | reversal => constructor <;> simp [Machine.takeLoss, loseFrame, noteLoss]
  | exhausted => constructor <;> simp [Machine.takeLoss, loseFrame, noteLoss]

theorem handOver (o : Occasion) (fs : List ClosedFrame) (s : State) : SameReel s (handOver o fs s) := by
  induction fs generalizing s with
  | nil => exact refl s
  | cons f fs ih =>
    unfold Machine.handOver
    split
    · exact takeLoss o f s
    · rename_i t htake
      have htracker := takeFrame_tracker f s t htake
      refine trans ?_ (ih _)
      constructor <;> simp [htracker]

theorem acquire (o : Occasion) (f : ClosedFrame) (s : State) : SameReel s (acquire o f s) := by
  unfold Machine.acquire
  dsimp only
  split_ifs
  · refine trans ?_ (handOver o _ _)
    exact ⟨rfl, rfl, id⟩
  · refine trans ?_ (handOver o _ _)
    constructor <;> simp
  · exact ⟨rfl, rfl, id⟩
  · refine trans ?_ (handOver o _ _)
    exact ⟨rfl, rfl, id⟩

theorem routeFrame (o : Occasion) (f : ClosedFrame) (s : State) : SameReel s (routeFrame o f s) := by
  unfold Machine.routeFrame
  split_ifs
  · exact acquire o f s
  · exact handOver o [f] s

theorem afterClose (f : ClosedFrame) (s : State) : SameReel s (afterClose f s) := by
  constructor <;> simp [afterClose_tracker]

theorem exhaust (o : Occasion) (s : State) : SameReel s (exhaust o s) := by
  rw [exhaust_eq]
  unfold fullReel
  refine trans ?_ (handOver _ _ _)
  constructor <;> simp

end SameReel

theorem handOver_buffer_of_nil (o : Occasion) (fs : List ClosedFrame) {s : State} (h : s.tracker.buffer = []) :
    (handOver o fs s).tracker.buffer = [] := by
  induction fs generalizing s with
  | nil => exact h
  | cons f fs ih =>
    unfold handOver
    split
    · cases o <;> simp [takeLoss, loseFrame, noteLoss]
    · rename_i t htake
      exact ih (by simpa [takeFrame_tracker f s t htake] using h)

theorem exhaust_assembly (o : Occasion) (s : State) : (exhaust o s).tracker.assembly = none := by
  rw [exhaust_eq]
  exact (SameReel.handOver _ _ _).assembly (by simp)

/-- A closing frame leaves nothing in assembly, and the reel and the last mark as they were. -/
theorem closeAssembly_sameReel (o : Occasion) (p : PitchSource) (s : State) :
    SameReel s (closeAssembly o p s) ∧ (closeAssembly o p s).tracker.assembly = none := by
  unfold closeAssembly
  split
  · rename_i hnone
    exact ⟨.refl s, hnone⟩
  · rename_i a _
    split_ifs
    · exact ⟨.exhaust o s, exhaust_assembly o s⟩
    · have hroute := SameReel.routeFrame o (closedFrame p a s) (afterClose (closedFrame p a s) s)
      exact ⟨(SameReel.afterClose _ s).trans hroute, hroute.assembly (by simp [afterClose_tracker])⟩

theorem endReel_sameReel (s : State) : SameReel s (endReel s) := by
  obtain ⟨hclose, hnone⟩ := closeAssembly_sameReel .reelChange .estimated s
  refine ⟨?_, ?_, fun _ => ?_⟩ <;> rw [endReel, closeAndRelease_tracker]
  · exact (SameReel.handOver .reelChange _ _).reel.trans hclose.reel
  · exact (SameReel.handOver .reelChange _ _).lastMark.trans hclose.lastMark
  · exact (SameReel.handOver .reelChange _ _).assembly hnone

theorem endReel_nothing (s : State) :
    (endReel s).tracker.assembly = none ∧ (endReel s).tracker.buffer = [] ∧ (endReel s).matching.drawing = none := by
  obtain ⟨-, hnone⟩ := closeAssembly_sameReel .reelChange .estimated s
  refine ⟨?_, ?_, closeAndRelease_matching_drawing _⟩ <;> rw [endReel, closeAndRelease_tracker]
  · exact (SameReel.handOver .reelChange _ _).assembly hnone
  · exact handOver_buffer_of_nil .reelChange _ rfl

/-! Marks (R8 to R13). -/

section
variable {s : State} {m : MarkClass} {c last : Nat}

theorem trackMark_of_full (h : s.tracker.state = .full) : trackMark m c s = s := by simp [trackMark, h]

theorem trackMark_of_duplicate (hidle : s.tracker.state ≠ .idle) (hfull : s.tracker.state ≠ .full)
    (h : s.tracker.lastMark = some c) : trackMark m c s = advance .duplicates s := by
  unfold trackMark
  split
  · rename_i hstate
    exact absurd hstate hidle
  · rename_i hstate
    exact absurd hstate hfull
  · exact if_pos h

theorem trackMark_of_new (hidle : s.tracker.state ≠ .idle) (hfull : s.tracker.state ≠ .full)
    (h : s.tracker.lastMark = some last) (hne : c ≠ last) :
    trackMark m c s = { newMark m c s with tracker.lastMark := some c } := by
  unfold trackMark
  split
  · rename_i hstate
    exact absurd hstate hidle
  · rename_i hstate
    exact absurd hstate hfull
  · exact if_neg (by rw [h]; exact fun heq => hne (Option.some.inj heq).symm)

theorem markInForce_of_some (h : s.tracker.lastMark = some last) : markInForce s.tracker = last := by
  rw [markInForce, h]
  rfl

theorem newMark_forward (hstate : s.tracker.state = .acquire ∨ s.tracker.state = .tracking) (h : s.tracker.lastMark = some last)
    (hlt : last < c) : newMark m c s = forwardMark m c s := by
  have hmark := markInForce_of_some h
  unfold newMark
  rcases hstate with hstate | hstate <;> rw [hstate, hmark] <;> exact if_neg (not_lt.mpr hlt.le)

theorem reverse_of_acquire (h : s.tracker.state = .acquire) :
    reverse s = { occur .reversal (flushBuffer .reversal (emptyAcc { s with tracker.assembly := none })) with
      tracker.state := .rewound } := by
  unfold reverse
  dsimp only
  rw [if_pos h]

theorem reverse_of_not_acquire (h : s.tracker.state ≠ .acquire) :
    reverse s = occur .reversal { emptyAcc { s with tracker.assembly := none } with tracker.state := .rewound } := by
  unfold reverse
  dsimp only
  rw [if_neg h]
  exact occur_setState _ _ _

theorem newMark_reverse (hstate : s.tracker.state = .acquire ∨ s.tracker.state = .tracking) (h : s.tracker.lastMark = some last)
    (hlt : c < last) : newMark m c s = reverse s := by
  have hmark := markInForce_of_some h
  unfold newMark
  rcases hstate with hstate | hstate <;> rw [hstate, hmark] <;> exact if_pos hlt

end

end Sys2Proof.Machine

namespace Sys2Proof.Proofs

open Sys2Proof.Machine Sys2Proof.Safety

/-- Settles O30: `endReel` leaves nothing in assembly, nothing buffered and no drawing open, so the timer stops and LIST clears. -/
theorem reelAndReelEndTaken : Obligations.ReelAndReelEndTaken := by
  intro s src h settled
  obtain ⟨hassembly, hbuffer, hdrawing⟩ := endReel_nothing (sorted s)
  have hleave (next : TrackerState) (t : State) (hassembly : t.tracker.assembly = none) (hdrawing : t.matching.drawing = none) :
      reportList (settleTimer (leaveReel next (decide (s.tracker.state = .lost)) t)) =
        settled { t with tracker.state := next } := by
    have hsettle : settleTimer (leaveReel next (decide (s.tracker.state = .lost)) t) =
        { leaveReel next (decide (s.tracker.state = .lost)) t with matching.flushTimer := none } := by
      rw [settleTimer_of_no_drawing (by simpa using hdrawing), if_pos (by simpa using hassembly)]
    rw [hsettle, reportList_of_no_drawing (by simpa using hdrawing)]
    unfold leaveReel
    simp only [decide_eq_true_eq]
    rfl
  have hhalt (t : State) : (settled t).output.halt.list = false := (requestHalt_list_reasons false _).1
  have hlost (t : State) (hstate : s.tracker.state = .lost) : (settled t).output.halt.lost = false := by
    refine (requestHalt_list_reasons false _).2.1.trans ?_
    rw [if_pos hstate]
    exact (requestHalt_lost_reasons false t).1
  have hmatching (t : State) : (settled t).matching = { t.matching with flushTimer := none } := by
    rw [requestHalt_matching]
    split_ifs <;> simp
  have htracker (t : State) : (settled t).tracker = t.tracker := by
    rw [requestHalt_tracker]
    split_ifs <;> simp
  refine ⟨fun number polarity format pitch counter => ?_, fun hstate => ?_⟩
  · have hload := hleave .acquire (loadReel (reelOf number polarity format pitch counter) (endReel (sorted s))) hassembly hdrawing
    have hrecord : { loadReel (reelOf number polarity format pitch counter) (endReel (sorted s)) with
        tracker.state := .acquire } =
        { endOfReel (sorted s) with
          tracker :=
            { state := .acquire, reel := some (reelOf number polarity format pitch counter), pitchChecking := true
              lastMark := some counter.toNat, nextNew := counter.toNat, frameCounter := 0
              assembly := none, buffer := [], closeCount := 0 } } := by
      rw [← endReel_eq, ← hassembly, ← hbuffer]
      rfl
    rw [hrecord] at hload
    have hkeeps := (FilmFrame.ofFilmRun (Film.reel (s := sorted s) (reelOf number polarity format pitch counter)).run).keeps
    rw [show takeReel (reelOf number polarity format pitch counter) (sorted s) = _ from hload] at hkeeps
    refine ⟨?_, ?_, ?_, hhalt _, hlost _, hkeeps⟩
    · rw [exec_reel h]
      exact congrArg (fun t => Host.Outcome.next (arbitrated t)) hload
    · rw [hmatching, ← endReel_eq]
      exact hdrawing
    · rw [hmatching]
  · have hend := hleave .idle (endReel (sorted s)) hassembly hdrawing
    have htake : takeReelEnd (sorted s) = settled { endOfReel (sorted s) with tracker.state := .idle } := by
      rw [takeReelEnd, if_neg (by exact hstate), ← endReel_eq]
      exact hend
    have hkeeps := (FilmFrame.ofFilmRun (Film.reelEnd (s := sorted s)).run).keeps
    rw [htake] at hkeeps
    obtain ⟨hreel, hlast, -⟩ := endReel_sameReel (sorted s)
    refine ⟨?_, ?_, ?_, ?_, ?_, ?_, ?_, ?_, hhalt _, hlost _, hkeeps⟩
    · rw [exec_reelEnd h, htake]
    · rw [htracker]
    · rw [htracker, ← endReel_eq]
      exact hassembly
    · rw [htracker, ← endReel_eq]
      exact hbuffer
    · rw [htracker, ← endReel_eq]
      exact hreel
    · rw [htracker, ← endReel_eq]
      exact hlast
    · rw [hmatching, ← endReel_eq]
      exact hdrawing
    · rw [hmatching]

/-- Settles O31: the first branches of `trackMark` and `trackScan`; LIST is told already. -/
theorem ignoredFilmTraffic : Obligations.IgnoredFilmTraffic := by
  intro s src cls counter payload h hlen hlaw htracker
  have htold : ListTold (sorted s) := hlaw.1
  have hmark {t : State} (htrack : trackMark (markOf cls) counter.toNat (sorted s) = t) (ht : ListTold t) :
      exec (.mark 66#8 src cls counter) s = .next (arbitrated (restarted t)) := by
    rw [exec_mark h, takeMark_eq_restarted (by rw [htrack]; exact ht), htrack]
  have hscan {t : State} (htrack : trackScan payload (sorted s) = t) :
      exec (.scan 66#8 src payload) s = .next (arbitrated (restarted t)) := by
    rw [exec_scan h hlen, takeScan, restartTimer_eq, htrack]
  refine ⟨fun hidle => ?idle, fun hfull => ⟨hmark (trackMark_of_full hfull) htold, hscan (by simp [trackScan, sorted, hfull])⟩,
    fun hidle hfull => ⟨fun hdup => ?duplicate, fun hnone => ?nothing⟩⟩
  case idle =>
    have hidle' : (sorted s).tracker.state = .idle := hidle
    have hoff : s.tracker.assembly = none ∧ s.matching.drawing = none := by
      rcases (trackerLaw_iff s).mp htracker with hon | ⟨hoff, hdrawing⟩
      · exact absurd hidle hon.notIdle
      · exact ⟨hoff.assembly, hdrawing⟩
    have hrestart : restarted (ignoreInIdle (sorted s)) = { ignoreInIdle (sorted s) with matching.flushTimer := none } :=
      restarted_of_nothing (by rw [ignoreInIdle_tracker]; exact hoff.1) (by rw [ignoreInIdle_matching]; exact hoff.2)
    have hignored : ListTold (ignoreInIdle (sorted s)) := htold.ofSame (by simp [ignoreInIdle]) (by simp)
    refine ⟨?_, ?_, ?_⟩
    · rw [hmark (trackMark_of_idle hidle' _ _) hignored, hrestart]
      rfl
    · rw [hscan (by rw [trackScan, hidle']), hrestart]
      rfl
    · rw [exec_reelEnd h, takeReelEnd, if_pos hidle']
      rfl
  case duplicate => exact hmark (trackMark_of_duplicate hidle hfull hdup) htold
  case nothing =>
    refine hscan ?_
    unfold trackScan
    split
    · rename_i hstate
      exact absurd hstate hidle
    · rfl
    · rw [show (sorted s).tracker.assembly = none from hnone]

/-- Settles O32: with nothing in assembly nothing closes, and the frame starts. -/
theorem markStartsFrame : Obligations.MarkStartsFrame := by
  intro s src cls counter last h hlaw hstate hnone hlast hlt
  have hidle : (sorted s).tracker.state ≠ .idle := by
    rintro hidle
    rcases hstate with hstate | hstate <;> rw [show s.tracker.state = .idle from hidle] at hstate <;> cases hstate
  have hfull : (sorted s).tracker.state ≠ .full := by
    rintro hfull
    rcases hstate with hstate | hstate <;> rw [show s.tracker.state = .full from hfull] at hstate <;> cases hstate
  have hforward : forwardMark (markOf cls) counter.toNat (sorted s) = startFrame (markOf cls) counter.toNat (sorted s) := by
    have hclose (p : PitchSource) : closeAssembly .live p (sorted s) = sorted s := by
      rw [closeAssembly, show (sorted s).tracker.assembly = none from hnone]
    unfold forwardMark
    rw [hclose]
    exact if_pos hstate
  have htrack : trackMark (markOf cls) counter.toNat (sorted s) =
      { startFrame (markOf cls) counter.toNat (sorted s) with tracker.lastMark := some counter.toNat } := by
    rw [trackMark_of_new hidle hfull hlast hlt.ne', newMark_forward (s := sorted s) hstate hlast hlt, hforward]
  have htold : ListTold (trackMark (markOf cls) counter.toNat (sorted s)) := by
    rw [htrack]
    exact hlaw.1
  rw [exec_mark h, takeMark_eq_restarted htold, htrack]
  rfl

/-- Settles O35: the falling counter's `reverse`, and the marks in REWOUND and LOST. -/
theorem rewindMarksTaken : Obligations.RewindMarksTaken := by
  intro s src cls counter last h hlaw htracker hlast hne marked
  have hmarked {t : State} (hidle : s.tracker.state ≠ .idle) (hfull : s.tracker.state ≠ .full)
      (hnew : newMark (markOf cls) counter.toNat (sorted s) = t) :
      exec (.mark 66#8 src cls counter) s = .next (arbitrated (reportList (marked t))) := by
    rw [exec_mark h, takeMark, restartTimer_eq, trackMark_of_new (s := sorted s) hidle hfull hlast hne, hnew]
  have htold {t : State} (ht : ListTold t) : reportList (marked t) = marked t := reportList_of_listTold ht
  have hsorted : ListTold (sorted s) := hlaw.1
  refine ⟨fun hstate hlt => ?tracking, fun hstate hlt => ?acquire, fun hstate => ?rewound, fun hstate => ?lost⟩
  case tracking =>
    have hreverse := reverse_of_not_acquire (s := sorted s) (by rw [show (sorted s).tracker.state = .tracking from hstate]; decide)
    rw [hmarked (by rw [hstate]; decide) (by rw [hstate]; decide)
      ((newMark_reverse (s := sorted s) (.inr hstate) hlast hlt).trans hreverse), htold (hsorted.ofSame (by simp) (by simp))]
    rfl
  case acquire =>
    rw [hmarked (by rw [hstate]; decide) (by rw [hstate]; decide)
      ((newMark_reverse (s := sorted s) (.inl hstate) hlast hlt).trans (reverse_of_acquire (s := sorted s) hstate))]
    rfl
  case rewound =>
    have hnew : newMark (markOf cls) counter.toNat (sorted s) = rewoundMark (markOf cls) counter.toNat (sorted s) := by
      rw [newMark, show (sorted s).tracker.state = .rewound from hstate]
    have hmark : markInForce (sorted s).tracker = last := markInForce_of_some hlast
    rw [hmarked (by rw [hstate]; decide) (by rw [hstate]; decide) hnew, rewoundMark, hmark]
    by_cases hfalls : counter.toNat < last
    · rw [if_pos hfalls, if_pos hfalls, htold (hsorted.ofSame (by simp) (by simp))]
    rw [if_neg hfalls, if_neg hfalls]
    by_cases hreplay : counter.toNat < s.tracker.nextNew
    · rw [if_pos hreplay, if_pos (by exact hreplay), htold (t := advance .replaysSkipped (sorted s)) hsorted]
      rfl
    · rw [if_neg hreplay, if_neg (by exact hreplay), htold (by exact hsorted)]
      rfl
  case lost =>
    have hnew : newMark (markOf cls) counter.toNat (sorted s) = lostMark counter.toNat (sorted s) := by
      rw [newMark, show (sorted s).tracker.state = .lost from hstate]
    have hmark : markInForce (sorted s).tracker = last := markInForce_of_some hlast
    rw [hmarked (by rw [hstate]; decide) (by rw [hstate]; decide) hnew, lostMark, hmark]
    split_ifs with hfalls
    · rw [occur_setState, htold]
      unfold ListTold
      rw [(requestHalt_lost_reasons false _).2.1, requestHalt_matching, occur_output, occur_matching]
      exact hsorted
    · exact congrArg (fun t => Host.Outcome.next (arbitrated t)) (htold hsorted)

/-- Settles O36: the branches of `trackScan` with a frame in assembly. -/
theorem scanTaken : Obligations.ScanTaken := by
  intro s src payload a r h hlen hidle hfull hassembly hreel
  have hscan {t : State} (htrack : trackScan payload (sorted s) = t) :
      exec (.scan 66#8 src payload) s = .next (arbitrated (restarted t)) := by
    rw [exec_scan h hlen, takeScan, restartTimer_eq, htrack]
  have htrack : trackScan payload (sorted s) =
      (readScan r.format payload).elim (advance .badScanLines (sorted s)) (fun xs => takeLine a xs (sorted s)) := by
    unfold trackScan
    split
    · rename_i hstate
      exact absurd hstate hidle
    · rename_i hstate
      exact absurd hstate hfull
    · rw [show (sorted s).tracker.assembly = some a from hassembly, reelInForce_of_reel (show (sorted s).tracker.reel = some r from hreel)]
      cases readScan r.format payload <;> rfl
  refine ⟨fun hbad => hscan ?_, fun xs hgood => ⟨fun hfew => hscan ?_, fun hmany => hscan ?_⟩⟩
  · rw [htrack, hbad]
    rfl
  · rw [htrack, hgood, ← takeSamples_eq_foldl]
    exact if_pos hfew
  · rw [htrack, hgood]
    exact if_neg (not_lt.mpr hmany)

/-- Settles O41: the branches of `expireFlush`. -/
theorem flushExpiryTaken : Obligations.FlushExpiryTaken := by
  have hexec (s : State) : exec .flushTimerExpiry s = .next (arbitrated (expireFlush s)) := by
    rw [← choose_eq_arbitrated]
    rfl
  refine ⟨fun s hstopped => ?_, fun s hruns htracker => ?_⟩
  · rw [hexec, expireFlush, hstopped]
  · intro closed t
    have hclosed : flushAssembly s = closed := by
      unfold flushAssembly
      rw [closeAssembly_eq (.inl rfl)]
    have hexpire : expireFlush s = t := by
      obtain ⟨v, hv⟩ := Option.ne_none_iff_exists'.mp hruns
      rw [expireFlush, hv]
      dsimp only
      rw [reportList_of_no_drawing (by simp), hclosed, closeAndRelease_eq]
    have hdrawing : (release (endDrawing closed)).matching.drawing = none := by
      rw [release_matching_drawing, ← closeAndRelease_eq, closeAndRelease_matching_drawing]
    have htrackerEq : t.tracker = closed.tracker := by
      rw [requestHalt_tracker, ← closeAndRelease_eq]
      simp
    have hsame : SameReel s closed ∧ closed.tracker.assembly = none := by
      rw [← hclosed]
      unfold flushAssembly
      split_ifs with hstate
      · exact closeAssembly_sameReel .live .estimated s
      · refine ⟨.refl s, ?_⟩
        rcases (trackerLaw_iff s).mp htracker with hon | ⟨hoff, -⟩
        · exact hon.assembly_none (fun h => hstate (.inl h)) fun h => hstate (.inr h)
        · exact hoff.assembly
    obtain ⟨hreel, hassembly⟩ := hsame
    refine ⟨by rw [hexec, hexpire], ?_, ?_, ?_, ?_, (requestHalt_list_reasons false _).1, ?_, ?_, ?_⟩
    · rw [requestHalt_matching]
    · rw [requestHalt_matching]
      exact hdrawing
    · rw [htrackerEq]
      exact hassembly
    · have hend := releaseHead_release (endDrawing closed)
      rw [releaseHead_eq_none_iff] at hend ⊢
      rw [requestHalt_matching, requestHalt_output_queue]
      exact hend
    · rw [htrackerEq]
      exact hreel.lastMark
    · rw [htrackerEq]
      exact hreel.reel
    · rw [← hexpire]
      exact (FilmFrame.ofFilmRun (expireFlush_run s)).keeps

end Sys2Proof.Proofs
end

section
/-! Hand-over, losses and acquisition (1.5 to 1.7): what a refused frame leaves, what a hand-over without a loss keeps, and the
marks that close a frame; with the obligations O34 and O40. -/

namespace Sys2Proof.Machine

open Sys2Proof.Safety

/-! What a close leaves alone (R16). -/

section
variable (f : ClosedFrame) (s : State)

@[simp] theorem pitchEvent_matching (c : PitchClass) : (pitchEvent c s).matching = s.matching := by
  cases c <;> simp [pitchEvent]

@[simp] theorem pitchEvent_list (c : PitchClass) : (pitchEvent c s).list = s.list := by
  cases c <;> simp [pitchEvent]

@[simp] theorem pitchEvent_command_settings (c : PitchClass) : (pitchEvent c s).command.settings = s.command.settings := by
  cases c <;> simp [pitchEvent]

@[simp] theorem pitchEvent_command_counters (c : PitchClass) : (pitchEvent c s).command.counters = s.command.counters := by
  cases c <;> simp [pitchEvent]

@[simp] theorem afterClose_matching : (afterClose f s).matching = s.matching := by
  unfold afterClose
  dsimp only
  split_ifs <;> simp

@[simp] theorem afterClose_list : (afterClose f s).list = s.list := by
  unfold afterClose
  dsimp only
  split_ifs <;> simp

@[simp] theorem afterClose_command_settings : (afterClose f s).command.settings = s.command.settings := by
  unfold afterClose
  dsimp only
  split_ifs <;> simp

@[simp] theorem afterClose_command_counters : (afterClose f s).command.counters = s.command.counters := by
  unfold afterClose
  dsimp only
  split_ifs <;> simp

end

/-! Taken and refused frames (R25, R26). -/

section
variable {o : Occasion} {f : ClosedFrame} {fs : List ClosedFrame} {s t : State}

theorem takeFrame_settings (h : takeFrame f s = some t) : t.command.settings = s.command.settings := by
  obtain ⟨-, -, -, -, -, -, -, -, hsettings, -⟩ := (FilmFrame.ofFrameRun (takeFrame_frameRun h)).keeps
  exact hsettings

theorem handOver_of_taken (h : takeFrame f s = some t) :
    handOver o (f :: fs) s =
      handOver o fs { t with tracker.nextNew := f.counter + s.command.settings.pitchMin / 2 } := by
  rw [handOver, h]
  dsimp only
  rw [takeFrame_settings h]

theorem handOver_of_refused (h : takeFrame f s = none) : handOver o (f :: fs) s = takeLoss o f s := by
  rw [handOver, h]

theorem noteLoss_eq (s : State) :
    noteLoss s = { occur .frameLost s with
      command.counters.lostFrames := saturate s.command.counters.lostFrames } := by
  simp only [noteLoss, advance, advanceCounter, occur_command_counters]

end

/-! What a hand-over without a loss keeps: the count of lost frames tells whether there was one. -/

section
variable {s t : State}

theorem advance_lostFrames {k : Counter} (hk : k ≠ .lostFrames) (s : State) :
    (advance k s).command.counters.lostFrames = s.command.counters.lostFrames := by
  cases k with
  | lostFrames => exact absurd rfl hk
  | _ => rfl

theorem FrameStep.lostFrames (h : FrameStep s t) : t.command.counters.lostFrames = s.command.counters.lostFrames := by
  cases h with
  | occurs e => simp
  | supersedes => rfl
  | leaves x y rest =>
    have hrender : renderCounter y ≠ .lostFrames := by
      unfold renderCounter
      split <;> decide
    rw [emitSlot, outputTest_command]
    exact advance_lostFrames hrender _
  | rewrites | shuts | opensBound | opensUnbound | grows | joins => rfl

theorem takeFrame_lostFrames {f : ClosedFrame} (h : takeFrame f s = some t) :
    t.command.counters.lostFrames = s.command.counters.lostFrames :=
  (takeFrame_frameRun h).keeps (P := fun u => u.command.counters.lostFrames = s.command.counters.lostFrames)
    (fun _ _ hstep hu => hstep.lostFrames.trans hu) rfl

theorem takeLoss_lostFrames (o : Occasion) (f : ClosedFrame) (s : State) :
    (takeLoss o f s).command.counters.lostFrames = saturate s.command.counters.lostFrames := by
  cases o <;> simp [takeLoss, loseFrame, noteLoss, advanceCounter]

theorem lt_saturate {n : Nat} (h : n < 65535) : n < saturate n := by
  rw [saturate, if_pos h]
  exact Nat.lt_succ_self n

/-- With no frame lost the tracker is as it was but for the resume point. -/
theorem handOver_tracker_of_no_loss (o : Occasion) (fs : List ClosedFrame) {s : State}
    (h : (handOver o fs s).command.counters.lostFrames = s.command.counters.lostFrames)
    (hlow : s.command.counters.lostFrames < 65535) :
    ∃ n, (handOver o fs s).tracker = { s.tracker with nextNew := n } := by
  induction fs generalizing s with
  | nil => exact ⟨s.tracker.nextNew, rfl⟩
  | cons f fs ih =>
    rcases htake : takeFrame f s with _ | t
    · rw [handOver_of_refused htake, takeLoss_lostFrames] at h
      exact absurd h (lt_saturate hlow).ne'
    · have hkept := takeFrame_lostFrames htake
      rw [handOver_of_taken htake] at h ⊢
      obtain ⟨n, hn⟩ := ih (h.trans hkept.symm) (hkept ▸ hlow)
      refine ⟨n, ?_⟩
      rw [hn]
      simp only [takeFrame_tracker f s t htake]

end

/-! A latched event stays latched (R189). -/

/-- Every event latched before is latched after. -/
def StaysLatched (s t : State) : Prop := ∀ k, s.command.latched.getLsbD k = true → t.command.latched.getLsbD k = true

namespace StaysLatched

variable {s t u : State}

theorem refl (s : State) : StaysLatched s s := fun _ => id

theorem trans (h : StaysLatched s t) (k : StaysLatched t u) : StaysLatched s u := fun i hi => k i (h i hi)

theorem ofSame (h : t.command.latched = s.command.latched) : StaysLatched s t := fun _ hi => h ▸ hi

theorem occur (e : Event) (s : State) : StaysLatched s (occur e s) := by
  intro i hi
  rw [occur_command_latched, BitVec.getLsbD_or, hi, Bool.true_or]

theorem ofFrameStep (h : FrameStep s t) : StaysLatched s t := by
  cases h with
  | occurs e => exact occur e s
  | leaves x y rest => exact ofSame (by simp)
  | supersedes | rewrites | shuts | opensBound | opensUnbound | grows | joins => exact refl _

theorem ofFrameRun (h : FrameRun s t) : StaysLatched s t :=
  h.keeps (P := StaysLatched s) (fun _ _ hstep hs => hs.trans (ofFrameStep hstep)) (refl s)

theorem takeSample (x : Sample) (s : State) : StaysLatched s (takeSample x s) := by
  unfold Machine.takeSample
  split_ifs
  · exact refl _
  · refine trans ?_ (occur .sampleOverflow _)
    exact refl _
  · exact refl s

theorem ofFilmStep (h : FilmStep s t) : StaysLatched s t := by
  cases h with
  | samples x => exact takeSample x s
  | occurs e => exact occur e s
  | halts k b => exact ofSame (by simp)
  | takes f htake => exact ofFrameRun (takeFrame_frameRun htake)
  | closes => exact ofFrameRun (closeAndRelease_frameRun s)
  | releases => exact ofFrameRun (release_frameRun s)
  | tracks | empties | times | counts => exact refl _

theorem ofFilmRun (h : FilmRun s t) : StaysLatched s t :=
  h.keeps (P := StaysLatched s) (fun _ _ hstep hs => hs.trans (ofFilmStep hstep)) (refl s)

end StaysLatched

theorem occur_latches (e : Event) (s : State) : (occur e s).command.latched.getLsbD (eventCode e) = true := by
  have hbit : (eventBit e).getLsbD (eventCode e) = true := by cases e <;> decide
  rw [occur_command_latched, BitVec.getLsbD_or, hbit, Bool.or_true]

/-! A frame that closes in ACQUIRE (R21 to R23). -/

theorem isNormal_iff (f : ClosedFrame) : isNormal f = true ↔ f.pitchClass = .normal ∧ f.suspect = false := by
  simp [isNormal]

section
variable {o : Occasion} {f : ClosedFrame} {s : State}

theorem acquire_of_third (h : isNormal f = true ∧ 2 ≤ s.tracker.buffer.length) :
    acquire o f s = handOver o (s.tracker.buffer ++ [f])
      { s with tracker.closeCount := s.tracker.closeCount + 1, tracker.buffer := [], tracker.state := .tracking } := by
  unfold acquire
  dsimp only
  rw [if_pos (by simpa using h)]

theorem acquire_of_last (h : ¬(isNormal f = true ∧ 2 ≤ s.tracker.buffer.length)) (hcount : 64 ≤ s.tracker.closeCount + 1) :
    acquire o f s = handOver o (s.tracker.buffer ++ [f])
      { occur .acquireFail { s with tracker.closeCount := s.tracker.closeCount + 1 } with
        tracker.buffer := [], tracker.state := .tracking, tracker.pitchChecking := false } := by
  unfold acquire
  dsimp only
  rw [if_neg (by simpa using h), if_pos hcount]

theorem acquire_of_few (hnormal : isNormal f = true) (hfew : s.tracker.buffer.length < 2)
    (hcount : s.tracker.closeCount + 1 < 64) :
    acquire o f s =
      { s with tracker.closeCount := s.tracker.closeCount + 1, tracker.buffer := s.tracker.buffer ++ [f] } := by
  unfold acquire
  dsimp only
  rw [if_neg (by simpa [hnormal] using hfew), if_neg (not_le.mpr hcount), if_pos hnormal]

theorem acquire_of_broken (hnormal : isNormal f = false) (hcount : s.tracker.closeCount + 1 < 64) :
    acquire o f s = handOver o (leaders (s.tracker.buffer ++ [f]))
      { s with tracker.closeCount := s.tracker.closeCount + 1, tracker.buffer := [] } := by
  unfold acquire
  dsimp only
  rw [if_neg (by simp [hnormal]), if_neg (not_le.mpr hcount), if_neg (by simp [hnormal])]
  rfl

/-- A live hand-over ends in the state it began in, or in LOST. -/
theorem handOver_live_state (fs : List ClosedFrame) (s : State) :
    (handOver .live fs s).tracker.state = s.tracker.state ∨ (handOver .live fs s).tracker.state = .lost := by
  induction fs generalizing s with
  | nil => exact .inl rfl
  | cons f fs ih =>
    rcases htake : takeFrame f s with _ | t
    · rw [handOver_of_refused htake]
      exact .inr (by simp [takeLoss])
    · rw [handOver_of_taken htake, ← takeFrame_tracker f s t htake]
      exact ih _

theorem acquire_live_state (f : ClosedFrame) (h : s.tracker.state = .acquire) :
    ((acquire .live f s).tracker.state = .acquire ∨ (acquire .live f s).tracker.state = .tracking) ∨
      (acquire .live f s).tracker.state = .lost := by
  unfold acquire
  dsimp only
  split_ifs
  · exact (handOver_live_state _ _).imp_left .inr
  · exact (handOver_live_state _ _).imp_left .inr
  · exact .inl (.inl h)
  · exact (handOver_live_state _ _).imp_left fun hstate => .inl (hstate.trans h)

end

end Sys2Proof.Machine

namespace Sys2Proof.Proofs

open Sys2Proof.Machine Sys2Proof.Safety

/-- Settles O40: the hand-over's equations, the branches of `acquire`, and a hand-over without a loss. -/
theorem acquisitionDecides : Obligations.AcquisitionDecides := by
  refine ⟨fun o s => rfl, fun o f fs s => ⟨fun t htake => handOver_of_taken htake, fun hrefused => ?refused⟩,
    fun o f s hstate => ?acquires⟩
  case refused =>
    rw [handOver_of_refused hrefused]
    cases o with
    | live => simp only [takeLoss, loseFrame, noteLoss_eq]; rfl
    | reelChange => simp only [takeLoss, noteLoss_eq]
    | reversal => simp only [takeLoss, loseFrame, noteLoss_eq]; rfl
    | exhausted => simp only [takeLoss, loseFrame, noteLoss_eq]; rfl
  case acquires =>
    have hnormal := isNormal_iff f
    have hbroken (h : ¬(f.pitchClass = .normal ∧ f.suspect = false)) : isNormal f = false :=
      Bool.eq_false_iff.mpr fun htrue => h (hnormal.mp htrue)
    intro t normal buffer count counted
    have hthird (h : normal ∧ 2 ≤ buffer.length) :
        t = handOver o (buffer ++ [f]) { counted with tracker.buffer := [], tracker.state := .tracking } :=
      acquire_of_third ⟨hnormal.mpr h.1, h.2⟩
    have hlast (h : ¬(normal ∧ 2 ≤ buffer.length)) (hcount : 64 ≤ count) :
        t = handOver o (buffer ++ [f]) { occur .acquireFail counted with
          tracker.buffer := [], tracker.state := .tracking, tracker.pitchChecking := false } :=
      acquire_of_last (fun hboth => h ⟨hnormal.mp hboth.1, hboth.2⟩) hcount
    have hrun (h : ¬normal) (hcount : count < 64) :
        t = handOver o (leaders (buffer ++ [f])) { counted with tracker.buffer := [] } := acquire_of_broken (hbroken h) hcount
    refine ⟨(FilmFrame.ofFilmRun (acquire_run s o f)).keeps, hthird, hlast,
      fun h hfew hcount => acquire_of_few (hnormal.mpr h) hfew hcount, hrun, fun hnoloss hlow => ⟨fun h => ?_, fun h hcount => ?_,
        fun h hcount => ?_⟩⟩
    · rw [hthird h] at hnoloss ⊢
      obtain ⟨n, hn⟩ := handOver_tracker_of_no_loss o _ hnoloss hlow
      rw [hn]
      exact ⟨rfl, rfl, rfl⟩
    · rw [hlast h hcount] at hnoloss ⊢
      obtain ⟨n, hn⟩ := handOver_tracker_of_no_loss o _ (hnoloss.trans (by simp [counted])) (by simpa [counted] using hlow)
      rw [hn]
      exact ⟨rfl, rfl, rfl, StaysLatched.ofFilmRun (handOver_run _ o _) 6 (occur_latches .acquireFail counted)⟩
    · rw [hrun h hcount] at hnoloss ⊢
      obtain ⟨n, hn⟩ := handOver_tracker_of_no_loss o _ hnoloss hlow
      rw [hn]
      exact ⟨hstate, rfl, rfl⟩

/-- Settles O34: the closing frame's route, and what a live loss leaves. -/
theorem markClosesFrame : Obligations.MarkClosesFrame := by
  intro s src cls counter last a h hassembly hlast hlt f u finished started
  have hmarked {t : State} (hstate : s.tracker.state = .acquire ∨ s.tracker.state = .tracking)
      (hforward : forwardMark (markOf cls) counter.toNat (sorted s) = t) :
      exec (.mark 66#8 src cls counter) s = .next (arbitrated (finished t)) := by
    have hidle : (sorted s).tracker.state ≠ .idle := by
      rcases hstate with hstate | hstate <;> rw [show (sorted s).tracker.state = _ from hstate] <;> decide
    have hfull : (sorted s).tracker.state ≠ .full := by
      rcases hstate with hstate | hstate <;> rw [show (sorted s).tracker.state = _ from hstate] <;> decide
    rw [exec_mark h, takeMark, restartTimer_eq, trackMark_of_new (s := sorted s) hidle hfull hlast hlt.ne',
      newMark_forward (s := sorted s) hstate hlast hlt, hforward]
  have hmark : markInForce (sorted s).tracker = last := markInForce_of_some hlast
  have hforward {t : State} (hclose : closeAssembly .live (.counters (counter.toNat - last)) (sorted s) = t) :
      forwardMark (markOf cls) counter.toNat (sorted s) =
        if t.tracker.state = .acquire ∨ t.tracker.state = .tracking then started t else t := by
    rw [← hclose, forwardMark, hmark]
    rfl
  have hclose : closeAssembly .live (.counters (counter.toNat - last)) (sorted s) =
      if s.tracker.frameCounter < 65535 then
        if s.tracker.state = .acquire then acquire .live f u else handOver .live [f] u
      else fullReel .exhausted (sorted s) := by
    rw [closeAssembly_eq (.inl rfl), closeFrame, show (sorted s).tracker.assembly = some a from hassembly]
    rfl
  refine ⟨fun hstate hcounter => ?tracking, fun hstate hcounter => ?acquire, fun hstate hexhausted => ?full⟩
  case tracking =>
    rw [if_pos hcounter, if_neg (by rw [hstate]; decide)] at hclose
    have hutracker : u.tracker = { s.tracker with frameCounter := s.tracker.frameCounter + 1, assembly := none } :=
      afterClose_tracker f (sorted s)
    have husettings : u.command.settings = s.command.settings := afterClose_command_settings f (sorted s)
    refine ⟨fun v htake => ?taken, fun hrefused => ?refused⟩
    case taken =>
      have hhanded : handOver .live [f] u = { v with tracker.nextNew := a.counter + s.command.settings.pitchMin / 2 } := by
        rw [handOver_of_taken htake, husettings]
        rfl
      have hvstate : v.tracker.state = .tracking := by
        rw [takeFrame_tracker f u v htake, hutracker]
        exact hstate
      exact hmarked (.inr hstate) ((hforward (hclose.trans hhanded)).trans (if_pos (.inr hvstate)))
    case refused =>
      have hhanded : handOver .live [f] u = takeLoss .live f u := handOver_of_refused hrefused
      have hlost : (takeLoss .live f u).tracker = { s.tracker with
          state := .lost, nextNew := a.counter - s.command.settings.pitchMin / 2, assembly := none, buffer := []
          closeCount := 0 } := by
        simp only [takeLoss, requestHalt_tracker, loseFrame, noteLoss, advance_tracker, occur_tracker, emptyAcc_tracker, hutracker,
          husettings]
        rfl
      have hdensity : (takeLoss .live f u).density =
          { s.density with
            acc := { n := 0, sum := 0, dmin := none, dmax := none, overflow := false }, last := some f.result } := by
        simp only [takeLoss, requestHalt_density, loseFrame, noteLoss, advance_density, occur_density, emptyAcc]
        rw [afterClose_density]
        rfl
      have hmatching : (takeLoss .live f u).matching = s.matching := by
        simp [takeLoss, loseFrame, noteLoss, u, sorted]
      have hlist : (takeLoss .live f u).list = s.list := by
        simp [takeLoss, loseFrame, noteLoss, u, sorted]
      have hsettings : (takeLoss .live f u).command.settings = s.command.settings := by
        simp [takeLoss, loseFrame, noteLoss, husettings]
      have hkeeps := (FilmFrame.ofFilmRun ((afterClose_run (sorted s) f).trans ((takeLoss_run u .live f).trans
        ((FilmStep.tracks { (takeLoss .live f u).tracker with lastMark := some counter.toNat }).run.trans
          ((restartTimer_run _).trans (reportList_run _)))))).keeps
      rw [restartTimer_eq] at hkeeps
      intro t
      have ht : t = reportList (restarted { takeLoss .live f u with tracker.lastMark := some counter.toNat }) := by
        rw [← hhanded]
      have htmatching : t.matching = { s.matching with
          flushTimer := if s.matching.drawing ≠ none ∧ s.command.settings.flushTime ≠ 0 then some s.command.settings.flushTime
            else none } := by
        rw [ht, reportList_matching]
        simp only [restarted, hlost, hmatching, hsettings, Option.isSome_none, Bool.false_or, Bool.and_eq_true,
          decide_eq_true_eq, Option.isSome_iff_ne_none]
      have htoutput : t.output.queue = s.output.queue := by
        rw [ht, reportList, requestHalt_output_queue]
        simp [restarted, takeLoss, loseFrame, noteLoss, u, sorted]
      have htcommand : t.command = (takeLoss .live f u).command := by
        rw [ht, reportList, requestHalt_command]
        rfl
      refine ⟨?_, ?_, ?_, ?_, ?_, ?_, ?_, ?_, htoutput, ?_, ?_, ?_, ?_, ?_, ?_⟩
      · refine hmarked (.inr hstate) ((hforward hclose).trans (if_neg ?_))
        simp [hhanded, hlost]
      · rw [ht, reportList_tracker]
        exact congrArg (fun x : FrameTracker => { x with lastMark := some counter.toNat }) hlost
      · rw [ht, reportList, requestHalt_density]
        exact congrArg DensityUnit.acc hdensity
      · rw [ht, reportList, requestHalt_density]
        exact congrArg DensityUnit.last hdensity
      · rw [htmatching]
      · rw [htcommand]
        simp [takeLoss, loseFrame, noteLoss, eventBit, eventCode]
      · rw [htcommand]
        simp [takeLoss, loseFrame, noteLoss, advanceCounter, u, sorted]
      · rw [ht]
        exact (requestHalt_list_reasons _ _).2.1.trans (requestHalt_lost_reasons true _).1
      · rw [ht]
        exact hkeeps
      · rw [htmatching]
      · rw [htmatching]
      · rw [htmatching]
      · rw [htmatching]
      · rw [ht, reportList, requestHalt_list]
        exact hlist
  case acquire =>
    rw [if_pos hcounter, if_pos hstate] at hclose
    rw [hmarked (.inl hstate) (hforward hclose)]
    dsimp only
    have hustate : u.tracker.state = .acquire := (afterClose_tracker_state f (sorted s)).trans hstate
    rcases acquire_live_state f hustate with hgoes | hlost
    · have hne : (acquire .live f u).tracker.state ≠ .lost := by
        rcases hgoes with hgoes | hgoes <;> rw [hgoes] <;> decide
      rw [if_pos hgoes, if_neg hne]
    · rw [if_pos hlost, if_neg (by rw [hlost]; decide)]
  case full =>
    rw [if_neg (not_lt.mpr hexhausted)] at hclose
    have hexhaust : exhaust .live (sorted s) = fullReel .exhausted (sorted s) := exhaust_eq .live (sorted s)
    have hfull : (fullReel .exhausted (sorted s)).tracker.state = .full := by
      rw [← hexhaust]
      exact (exhaust_lost .live (sorted s)).2
    intro t
    have httracker : t.tracker = { (fullReel .exhausted (sorted s)).tracker with lastMark := some counter.toNat } :=
      reportList_tracker _
    have hlatched : StaysLatched (fullReel .exhausted (sorted s)) t :=
      StaysLatched.ofSame (by
        change (reportList _).command.latched = _
        rw [reportList, requestHalt_command]
        rfl)
    refine ⟨?_, ?_, ?_, hlatched 12 ?_⟩
    · refine hmarked hstate ((hforward hclose).trans (if_neg ?_))
      rw [hfull]
      decide
    · rw [httracker]
      exact hfull
    · rw [httracker, ← hexhaust]
      exact exhaust_assembly .live (sorted s)
    · exact StaysLatched.ofFilmRun (handOver_run _ .exhausted _) 12 (occur_latches .reelFull _)

end Sys2Proof.Proofs
end

section
/-! Taking a frame (4.4): room for it, and the slot it takes by its mark; with the obligations O42 to O46. -/

namespace Sys2Proof.Machine

open Sys2Proof.Safety

section
variable {f : ClosedFrame} {s : State} {d : Drawing}

/-! Room (R75, R76, R93). -/

theorem takeFrame_eq_none_iff (f : ClosedFrame) (s : State) : takeFrame f s = none ↔ isRefused f s = true := by
  simp [takeFrame]

theorem takeFrame_of_ne_none (h : takeFrame f s ≠ none) : takeFrame f s = some (acceptFrame f (makeRoom s)) :=
  if_neg fun hrefused => h ((takeFrame_eq_none_iff f s).mpr hrefused)

theorem makeRoom_of_room (h : s.matching.hold.length < 32) : makeRoom s = s := if_neg (not_le.mpr h)

theorem makeRoom_of_full {slot : Slot} {rest : List Slot} (h : 32 ≤ s.matching.hold.length)
    (hhold : s.matching.hold = slot :: rest) :
    makeRoom s = release (emitSlot (earlySlot slot)
      { earlyUnlisted slot (occur .earlyRelease s) with matching.hold := rest }) := by
  rw [makeRoom, if_pos (by exact h), earlyRelease, hhold]

/-! The slot that joins (R74, R77, R84). -/

/-- A frame that is not waste, as the statements say it. -/
structure IsCard (f : ClosedFrame) : Prop where
  leader : f.leader = false
  sliver : f.pitchClass ≠ .sliver
  target : f.mark ≠ .target
  blank : f.result.cls ≠ .blank

theorem IsCard.wasteReasonOf (h : IsCard f) : wasteReasonOf f = none := by
  simp [Machine.wasteReasonOf, h.leader, h.sliver, h.target, h.blank]

theorem acceptFrame_of_taken (h : IsCard f) {c : CardTaken} (hc : takeCard f.mark s = c) :
    acceptFrame f s = joinSlot (slotOf f (.card c.binding (addFrameFlags f c.flags))) c.state := by
  rw [acceptFrame, h.wasteReasonOf, ← hc]

/-- How many sheets a drawing may have (R71). -/
def sheetLimit (d : Drawing) : Nat := match d.entry with | some e => e.sheetCount | none => 32

theorem sheetsRemaining_iff (d : Drawing) : sheetsRemaining d = true ↔ d.sheetsSeen < sheetLimit d := by
  unfold sheetsRemaining sheetLimit
  cases d.entry <;> simp

theorem sheetsRemaining_eq_false_iff (d : Drawing) : sheetsRemaining d = false ↔ sheetLimit d ≤ d.sheetsSeen := by
  rw [← not_lt, ← sheetsRemaining_iff, Bool.not_eq_true]

/-! Document starts (R59, R71, R81, R82). -/

theorem takeDoc_of_entry {flags : SlotFlags} {e : Entry} {rest : List Entry}
    (h : (closeDrawing s).list.entries = e :: rest) :
    takeDoc flags s =
      { binding := .bound e (nextSerial (closeDrawing s).matching) 1, flags := flags
        state := listLowTest { closeDrawing s with
          list.entries := rest
          matching.serial := nextSerial (closeDrawing s).matching
          matching.drawing := some
            { serial := nextSerial (closeDrawing s).matching, entry := some e, sheetsSeen := 1 }
          matching.recent := none } } := by
  simp only [takeDoc, openDrawing, h, listLowTest_matching]
  rfl

theorem takeDoc_of_empty {flags : SlotFlags} (h : (closeDrawing s).list.entries = []) :
    takeDoc flags s =
      { binding := .unbound (nextSerial (closeDrawing s).matching) 1, flags := flags
        state := occur .listEmpty { closeDrawing s with
          matching.serial := nextSerial (closeDrawing s).matching
          matching.drawing := some { serial := nextSerial (closeDrawing s).matching, entry := none, sheetsSeen := 1 }
          matching.recent := none } } := by
  simp only [takeDoc, openDrawing, h, occur_matching]
  rfl

/-- The marks that start a document (R80). -/
theorem takeCard_of_start
    (h : f.mark = .doc ∨ (f.mark = .sheet ∧ s.matching.drawing = none) ∨
      (f.mark = .unknown ∧ ∀ d, s.matching.drawing = some d → sheetLimit d ≤ d.sheetsSeen)) :
    takeCard f.mark s = takeDoc { markInferred := decide (f.mark ≠ .doc) } s := by
  obtain hdoc | ⟨hsheet, hnone⟩ | ⟨hunknown, hfull⟩ := h
  · rw [hdoc]
    rfl
  · rw [hsheet, takeCard, hnone]
    rfl
  · rw [hunknown, takeCard]
    rcases hdrawing : s.matching.drawing with _ | d
    · rfl
    · simp only [(sheetsRemaining_eq_false_iff d).mpr (hfull d hdrawing)]
      rfl

/-! Further sheets (R83). -/

theorem takeSheetOf_of_remaining {flags : SlotFlags} (h : d.sheetsSeen < sheetLimit d) :
    takeSheetOf d flags s =
      { binding := drawingBinding { d with sheetsSeen := d.sheetsSeen + 1 } (d.sheetsSeen + 1), flags := flags
        state := { s with matching.drawing := some { d with sheetsSeen := d.sheetsSeen + 1 } } } :=
  if_pos ((sheetsRemaining_iff d).mpr h)

theorem takeSheetOf_of_full {flags : SlotFlags} (h : sheetLimit d ≤ d.sheetsSeen) :
    takeSheetOf d flags s = { binding := .except .extra, flags := flags, state := s } :=
  if_neg (by rw [(sheetsRemaining_eq_false_iff d).mpr h]; exact Bool.false_ne_true)

/-! Retakes (R78, R79). -/

theorem newestCard_of_newest {serial : Nat} {before after : List Slot} {slot : Slot} (hslot : isCardOf serial slot = true)
    (hafter : ∀ x ∈ after, isCardOf serial x = false) : newestCard serial (before ++ slot :: after) = some slot := by
  have hnone : after.reverse.find? (isCardOf serial) = none := by
    rw [List.find?_eq_none]
    intro x hx
    rw [hafter x (List.mem_reverse.mp hx)]
    exact Bool.false_ne_true
  rw [newestCard, List.reverse_append, List.reverse_cons, List.append_assoc, List.find?_append, hnone, Option.none_or,
    List.singleton_append, List.find?_cons_of_pos hslot]

theorem newestCard_of_none {serial : Nat} {hold : List Slot} (h : ∀ x ∈ hold, isCardOf serial x = false) :
    newestCard serial hold = none := by
  rw [newestCard, List.find?_eq_none]
  intro x hx
  rw [h x (List.mem_reverse.mp hx)]
  exact Bool.false_ne_true

theorem retakeDrawing_eq (m : MatchingEngine) : retakeDrawing m = m.drawing.orElse (fun _ => m.recent) := by
  unfold retakeDrawing
  cases m.drawing <;> rfl

theorem slotSerial_of_isCardOf {serial : Nat} {x : Slot} (h : isCardOf serial x = true) : slotSerial x = some serial :=
  of_decide_eq_true h

theorem takeRetake_of_target {before after : List Slot} {slot : Slot} {b : Binding} {g : SlotFlags}
    (hlooked : retakeDrawing s.matching = some d) (hhold : s.matching.hold = before ++ slot :: after)
    (hbody : slot.body = .card b g) (hslot : isCardOf d.serial slot = true)
    (hafter : ∀ x ∈ after, isCardOf d.serial x = false) :
    takeRetake s =
      { binding := b, flags := { retake := true, short := g.short }
        state := advance .superseded { s with matching.hold := before ++ supersede slot :: after } } := by
  have htarget : retakeTarget s.matching = some slot := by
    rw [retakeTarget, hlooked, hhold]
    exact newestCard_of_newest hslot hafter
  rw [takeRetake, htarget]
  dsimp only
  rw [hbody, slotSerial_of_isCardOf hslot]
  dsimp only
  rw [supersedeNewest, hhold, modifyNewest_append_cons _ hslot hafter]

theorem takeRetake_of_no_target
    (h : ∀ d, retakeDrawing s.matching = some d → ∀ x ∈ s.matching.hold, isCardOf d.serial x = false) :
    takeRetake s = takeLateRetake s := by
  have htarget : retakeTarget s.matching = none := by
    unfold retakeTarget
    rcases hlooked : retakeDrawing s.matching with _ | d
    · rfl
    · exact newestCard_of_none (h d hlooked)
  rw [takeRetake, htarget]

end

end Sys2Proof.Machine

namespace Sys2Proof.Proofs

open Sys2Proof.Machine Sys2Proof.Safety

/-- Settles O42: the refusal's two grounds, and `makeRoom` by the head's body. -/
theorem frameRoom : Obligations.FrameRoom := by
  refine fun f s => ⟨(takeFrame_eq_none_iff f s).trans (isRefused_iff f s), fun htaken hroom => ?_,
    fun slot rest htaken hfull hhold => ?_⟩
  · rw [takeFrame_of_ne_none htaken, makeRoom_of_room hroom]
  · rw [takeFrame_of_ne_none htaken, makeRoom_of_full hfull hhold]
    unfold earlySlot earlyUnlisted
    rcases slot.body with reason | ⟨⟨e, serial, sheet⟩ | ⟨serial, sheet⟩ | cause, g⟩ <;> rfl

/-- Settles O43: one of the four reasons applies. -/
theorem wasteFrameTaken : Obligations.WasteFrameTaken := by
  intro f s hwaste
  have hreason : wasteReasonOf f = some (if f.leader then .leader else if f.pitchClass = .sliver then .sliver
      else if f.mark = .target then .target else .blank) := by
    unfold wasteReasonOf
    split_ifs with hleader hsliver htarget hblank
    · rfl
    · rfl
    · rfl
    · rfl
    · simp [hleader, hsliver, htarget, hblank] at hwaste
  rw [acceptFrame, hreason]
  rfl

/-- Settles O44: the mark starts a document, and `takeDoc` by the list. -/
theorem documentStartTaken : Obligations.DocumentStartTaken := by
  intro f s hleader hsliver htarget hblank hstart u serial flags joined
  have haccept {c : CardTaken} (hc : takeDoc { markInferred := decide (f.mark ≠ .doc) } s = c) :
      acceptFrame f s = joinSlot (slotOf f (.card c.binding (addFrameFlags f c.flags))) c.state :=
    acceptFrame_of_taken ⟨hleader, hsliver, htarget, hblank⟩ ((takeCard_of_start hstart).trans hc)
  refine ⟨fun e rest hentries => ?_, fun hempty => ?_⟩
  · rw [haccept (takeDoc_of_entry hentries)]
    rfl
  · rw [haccept (takeDoc_of_empty hempty)]
    rfl

/-- Settles O45: `takeSheetOf` by the sheets that remain. -/
theorem furtherSheetTaken : Obligations.FurtherSheetTaken := by
  intro f s d hleader hsliver htarget hblank hopen limit joined
  have hcard : IsCard f := ⟨hleader, hsliver, htarget, hblank⟩
  have hbinding : drawingBinding { d with sheetsSeen := d.sheetsSeen + 1 } (d.sheetsSeen + 1) =
      match d.entry with
      | some e => .bound e d.serial (d.sheetsSeen + 1)
      | none => .unbound d.serial (d.sheetsSeen + 1) := by
    unfold drawingBinding
    cases d.entry <;> rfl
  refine ⟨fun hmark hremains => ?_, fun hmark hfull => ?_⟩
  · have htake : takeCard f.mark s = takeSheetOf d { markInferred := decide (f.mark = .unknown) } s := by
      obtain hsheet | hunknown := hmark
      · rw [hsheet, takeCard, hopen]
        rfl
      · rw [hunknown, takeCard, hopen]
        exact if_pos ((sheetsRemaining_iff d).mpr hremains)
    rw [acceptFrame_of_taken hcard (htake.trans (takeSheetOf_of_remaining hremains)), hbinding]
    rfl
  · have htake : takeCard f.mark s = takeSheetOf d {} s := by
      rw [hmark, takeCard, hopen]
    rw [acceptFrame_of_taken hcard (htake.trans (takeSheetOf_of_full hfull))]
    rfl

/-- Settles O46: `takeRetake` with and without a target, and `takeLateRetake` by the two drawings. -/
theorem retakeTaken : Obligations.RetakeTaken := by
  intro f s hleader hsliver hmark hblank joined looked
  have hlooked : retakeDrawing s.matching = looked := retakeDrawing_eq s.matching
  have haccept {c : CardTaken} (hc : takeRetake s = c) :
      acceptFrame f s = joinSlot (slotOf f (.card c.binding (addFrameFlags f c.flags))) c.state :=
    acceptFrame_of_taken ⟨hleader, hsliver, by rw [hmark]; decide, hblank⟩ (by rw [hmark]; exact hc)
  refine ⟨fun d before after slot b g hd hhold hbody hslot hafter => ?target, fun hnone => ?late⟩
  case target =>
    rw [haccept (takeRetake_of_target (hlooked.trans hd) hhold hbody hslot hafter)]
    rfl
  case late =>
    have hlate := takeRetake_of_no_target (s := s) (fun d hd => hnone d (hlooked.symm.trans hd))
    refine ⟨fun d hopen => ?_, fun d e hopen hrecent hentry => ?_, fun d hopen hrecent hentry => ?_, fun hopen hrecent => ?_⟩
    · rw [haccept hlate, takeLateRetake, hopen]
      rfl
    · rw [haccept hlate, takeLateRetake, hopen, hrecent]
      simp only [hentry, drawingBinding]
      rfl
    · rw [haccept hlate, takeLateRetake, hopen, hrecent]
      simp only [hentry]
      rfl
    · rw [haccept hlate, takeLateRetake, hopen, hrecent]
      rfl

end Sys2Proof.Proofs
end

section
/-! The mounter's reports (6.3, 6.4) and the halt reason set with its reports (6.6); with the obligations O52 and O53. -/

namespace Sys2Proof.Machine

open Sys2Proof.Safety

section
variable {s : State} {seq : Nat} {older newer : List InFlight} {e : InFlight}

/-! The in-flight entry of a sequence (R125). -/

theorem hasSeq_eq_true_iff (seq : Nat) (e : InFlight) : hasSeq seq e = true ↔ e.instruction.seq = seq := beq_iff_eq

theorem hasSeq_eq_false_iff (seq : Nat) (e : InFlight) : hasSeq seq e = false ↔ e.instruction.seq ≠ seq := by
  rw [ne_eq, ← hasSeq_eq_true_iff, Bool.not_eq_true]

theorem dropWhile_not_hasSeq (holder : ∀ x ∈ older, x.instruction.seq ≠ seq) (he : e.instruction.seq = seq) :
    (older ++ e :: newer).dropWhile (fun e => !hasSeq seq e) = e :: newer := by
  rw [List.dropWhile_append_of_pos (fun x hx => by rw [(hasSeq_eq_false_iff seq x).mpr (holder x hx)]; rfl),
    List.dropWhile_cons_of_neg (by simp [(hasSeq_eq_true_iff seq e).mpr he])]

theorem takeWhile_not_hasSeq (holder : ∀ x ∈ older, x.instruction.seq ≠ seq) (he : e.instruction.seq = seq) :
    (older ++ e :: newer).takeWhile (fun e => !hasSeq seq e) = older := by
  rw [List.takeWhile_append_of_pos (fun x hx => by rw [(hasSeq_eq_false_iff seq x).mpr (holder x hx)]; rfl),
    List.takeWhile_cons_of_neg (by simp [(hasSeq_eq_true_iff seq e).mpr he]), List.append_nil]

theorem eraseP_hasSeq (holder : ∀ x ∈ older, x.instruction.seq ≠ seq) (he : e.instruction.seq = seq) :
    (older ++ e :: newer).eraseP (hasSeq seq) = older ++ newer := by
  rw [List.eraseP_append_right _ (fun x hx => by simp [(hasSeq_eq_false_iff seq x).mpr (holder x hx)]),
    List.eraseP_cons_of_pos ((hasSeq_eq_true_iff seq e).mpr he)]

/-! A DONE, and the expiry of a done deadline (R125 to R131). -/

theorem takeDone_of_none (h : ∀ e ∈ s.output.inFlight, e.instruction.seq ≠ seq) (jammed : Bool) :
    takeDone seq jammed s = strayDone s := by
  have hnone : s.output.inFlight.dropWhile (fun e => !hasSeq seq e) = [] :=
    List.dropWhile_eq_nil_iff.mpr fun e he => by rw [(hasSeq_eq_false_iff seq e).mpr (h e he)]; rfl
  rw [takeDone, hnone]

theorem takeDone_of_match (hflight : s.output.inFlight = older ++ e :: newer) (he : e.instruction.seq = seq)
    (holder : ∀ x ∈ older, x.instruction.seq ≠ seq) (jammed : Bool) :
    takeDone seq jammed s =
      if jammed then takeJam e.instruction (writeOffEach older { s with output.inFlight := newer })
      else writeOffEach older { s with output.inFlight := newer } := by
  rw [takeDone, hflight, dropWhile_not_hasSeq holder he, takeWhile_not_hasSeq holder he]

theorem writeOffEach_eq_foldl (older : List InFlight) (s : State) :
    writeOffEach older s = older.foldl (fun t _ => writeOff t) s := by
  induction older generalizing s with
  | nil => rfl
  | cons _ older ih => exact ih _

theorem takeJam_of_empty (h : s.output.jam = none) (i : Instruction) :
    takeJam i s = occur .jam (requestHalt .jam true { s with output.jam := some i, output.held := true }) := by
  rw [takeJam, h]

theorem takeJam_of_occupied (h : s.output.jam ≠ none) (i : Instruction) : takeJam i s = occur .jam (advance .jamLost s) := by
  obtain ⟨j, hj⟩ := Option.ne_none_iff_exists'.mp h
  rw [takeJam, hj]

theorem expireDeadline_of_none (h : ∀ e ∈ s.output.inFlight, e.instruction.seq ≠ seq) : expireDeadline seq s = s :=
  if_neg fun hany => by
    obtain ⟨e, he, hseq⟩ := List.any_eq_true.mp hany
    exact h e he ((hasSeq_eq_true_iff seq e).mp hseq)

theorem expireDeadline_of_match (hflight : s.output.inFlight = older ++ e :: newer) (he : e.instruction.seq = seq)
    (holder : ∀ x ∈ older, x.instruction.seq ≠ seq) :
    expireDeadline seq s = writeOff { s with output.inFlight := older ++ newer } := by
  have hany : s.output.inFlight.any (hasSeq seq) = true :=
    List.any_eq_true.mpr ⟨e, by simp [hflight], (hasSeq_eq_true_iff seq e).mpr he⟩
  rw [expireDeadline, if_pos hany, hflight, eraseP_hasSeq holder he]

/-- A DONE addressed to the position reaches the output controller of a station in PASS or CONVERT (R153, R154). -/
theorem exec_done (hlisten : listening s) (hmode : s.line.mode ≠ .bypass) {dst src : Byte}
    (hsrc : isPosition s.line src = false) (hdst : isPosition s.line dst = true) (seq : BitVec 16) (result : Byte) :
    exec (.done dst src seq result) s = .next (arbitrated
      (if s.line.mode = .convert then takeDone seq.toNat (decide (result ≠ 0#8)) (sorted s) else strayDone (sorted s))) := by
  have hseq : readBe (be16 seq.toNat) = seq.toNat := (readBe_be16 _).trans (Nat.mod_eq_of_lt seq.isLt)
  have hreport : takeReport ⟨0x22#8, dst, src, be16 seq.toNat ++ [result]⟩ (sorted s) =
      if s.line.mode = .convert then takeDone (readBe (be16 seq.toNat)) (decide (result ≠ 0#8)) (sorted s)
      else strayDone (sorted s) := rfl
  rw [exec_of_recordOf (r := ⟨0x22#8, dst, src, be16 seq.toNat ++ [result]⟩) rfl,
    receive_of_member hlisten (Nat.le_of_ble_eq_true rfl) hmode,
    sortStored_done (r := ⟨0x22#8, dst, src, be16 seq.toNat ++ [result]⟩) (s := sorted s) hsrc rfl rfl hdst, hreport, hseq]

theorem exec_done_of_match {dst src result : Byte} {seq : BitVec 16} (hlisten : listening s) (hmode : s.line.mode = .convert)
    (hsrc : isPosition s.line src = false) (hdst : isPosition s.line dst = true)
    (hflight : s.output.inFlight = older ++ e :: newer) (he : e.instruction.seq = seq.toNat)
    (holder : ∀ x ∈ older, x.instruction.seq ≠ seq.toNat) :
    exec (.done dst src seq result) s = .next (arbitrated
      (if result ≠ 0#8 then takeJam e.instruction (writeOffEach older { sorted s with output.inFlight := newer })
      else writeOffEach older { sorted s with output.inFlight := newer })) := by
  have hmember : s.line.mode ≠ .bypass := by simp [hmode]
  rw [exec_done hlisten hmember hsrc hdst, if_pos hmode,
    takeDone_of_match (s := sorted s) hflight he holder]
  simp only [decide_eq_true_eq]

theorem exec_doneDeadlineExpiry (seq : BitVec 16) (s : State) :
    exec (.doneDeadlineExpiry seq) s = .next (arbitrated (expireDeadline seq.toNat s)) := by
  rw [← choose_eq_arbitrated]; rfl

end

/-! The halt reason set and its reports (R138 to R142, R205). -/

theorem haltBits_eq_zero_iff (h : HaltSet) : haltBits h = 0 ↔ h = noHalt := by
  obtain ⟨output, jam, list, lost⟩ := h
  cases output <;> cases jam <;> cases list <;> cases lost <;> decide

theorem haltRecord_eq (s : State) :
    haltRecord s =
      if haltBits s.output.halt = 0 then ⟨0x31#8, 64#8, originSource s.line, []⟩
      else ⟨0x30#8, 64#8, originSource s.line, [BitVec.ofNat 8 (haltBits s.output.halt)]⟩ := by
  simp only [haltRecord, haltBits_eq_zero_iff]
  rfl

theorem placeHaltReport_eq (r : Record) (q : List ControlItem) :
    placeHaltReport r q =
      if ∃ c ∈ q, c.halt = true then q.map (fun c => if c.halt then { halt := true, record := r } else c)
      else q ++ [{ halt := true, record := r }] := by
  have hitem (c : ControlItem) :
      (if c.halt then { c with record := r } else c) = if c.halt then { halt := true, record := r } else c := by
    obtain ⟨halt, record⟩ := c
    cases halt <;> rfl
  simp only [placeHaltReport, List.any_eq_true, hitem]

theorem requestHalt_of_not_has {k : HaltReason} {b : Bool} {s : State} (h : haltHas s.output.halt k ≠ b) :
    requestHalt k b s = { s with
      output.halt := haltPut s.output.halt k b
      line.control := placeHaltReport (haltRecord { s with output.halt := haltPut s.output.halt k b }) s.line.control } :=
  if_neg h

end Sys2Proof.Machine

namespace Sys2Proof.Proofs

open Sys2Proof.Machine Sys2Proof.Safety

/-- Settles O52: a DONE is a stray or finds its entry behind the older ones, and an expiry takes its entry out. -/
theorem mounterReportsTaken : Obligations.MounterReportsTaken := by
  refine ⟨fun s dst src result seq hlisten hmode hsrc hdst => ⟨fun hstray => ?_, ?_⟩,
    fun s seq => ⟨fun hnone => ?_, ?_⟩⟩
  · rw [exec_done hlisten hmode hsrc hdst]
    split
    next hconvert =>
      have hnone := hstray.resolve_left (by simp [hconvert])
      rw [takeDone_of_none (s := sorted s) hnone]
      rfl
    next => rfl
  · intro older e newer hconvert hflight he holder u
    have hu : writeOffEach older { sorted s with output.inFlight := newer } = u := writeOffEach_eq_foldl older _
    have hjam : u.output.jam = s.output.jam := by rw [← hu, writeOffEach_output]; rfl
    have hexec := exec_done_of_match (result := result) hlisten hconvert hsrc hdst hflight he holder
    rw [hu] at hexec
    refine ⟨fun hok => ?_, fun hbad hempty => ?_, fun hbad hfull => ?_⟩
    · rw [hexec, if_neg (not_not.mpr hok)]
    · rw [hexec, if_pos hbad, takeJam_of_empty (hjam.trans hempty)]
    · rw [hexec, if_pos hbad, takeJam_of_occupied (hjam ▸ hfull)]
      rfl
  · rw [exec_doneDeadlineExpiry, expireDeadline_of_none hnone]
  · intro older e newer hflight he holder
    rw [exec_doneDeadlineExpiry, expireDeadline_of_match hflight he holder]
    rfl

/-- Settles O53: a request puts one reason in or out and places the report of the set that results. -/
theorem haltReasonsReported : Obligations.HaltReasonsReported := by
  refine ⟨fun _ => rfl, fun k b s => ⟨requestHalt_of_has, ?_⟩, fun s hlaw => ?_⟩
  · intro hchange h bits from' report
    have hset : haltPut s.output.halt k b = h := by cases k <;> rfl
    have hbits : haltBits h = bits := rfl
    have hfrom : originSource s.line = from' := by simp only [originSource, from']; cases s.line.position <;> rfl
    have hreport : haltRecord { s with output.halt := h } = report := by
      rw [haltRecord_eq]
      simp only [hbits, hfrom, report]
    rw [requestHalt_of_not_has hchange, hset, hreport, placeHaltReport_eq]
  · have hlevels : s.command.settings.goLevel < s.command.settings.stopLevel := by
      obtain ⟨_, _, _, _, _, _, _, hlevels⟩ := hlaw
      exact hlevels
    refine ⟨fun hstop => if_pos hstop, fun hgo => ?_, fun hgo hstop => ?_⟩
    · exact (if_neg (by omega)).trans (if_pos hgo)
    · exact (if_neg (by omega)).trans (if_neg (by omega))

end Sys2Proof.Proofs
end

section
/-! A card from its slot to its bytes (5.2 to 5.5, R116, R203): the numbers of its fields, the columns a placement writes, the
print line, and the sizes of its record; with the obligation O50. -/

namespace Sys2Proof.Machine

open Sys2Proof.Safety

/-! Numbers in decimal (R105). -/

theorem decimal_eq_toDigits {n : Nat} (h : n ≤ 32) :
    decimal n = (Nat.toDigits 10 n).map (fun c => BitVec.ofNat 8 c.toNat) := by
  have hall : ∀ n ∈ List.range 33, decimal n = (Nat.toDigits 10 n).map (fun c => BitVec.ofNat 8 c.toNat) := by decide
  exact hall n (List.mem_range.mpr (by omega))

theorem padded_four (n : Nat) : padded 4 n = [digit (n / 1000), digit (n / 100), digit (n / 10), digit n] := by
  simp [padded, Nat.div_div_eq_div_mul]

theorem padded_five (n : Nat) :
    padded 5 n = [digit (n / 10000), digit (n / 1000), digit (n / 100), digit (n / 10), digit n] := by
  rw [padded, padded_four]
  simp [Nat.div_div_eq_div_mul]

/-! The columns a placement writes (R109, R110). -/

section
variable {texts : Field → List Byte} {fields : List Placement} {p : Placement}

@[simp] theorem placementCells_length (justify : Justification) (width : Nat) (text : List Byte) :
    (placementCells justify width text).length = width := by
  unfold placementCells
  split
  next hfits => cases justify <;> simp <;> omega
  next hlong => simp; omega

theorem placementCells_getElem? (justify : Justification) {width k : Nat} (hk : k < width) (text : List Byte) :
    (placementCells justify width text)[k]? =
      if k < (if justify = .right then width - text.length else 0) then some space
      else some (text.getD (k - (if justify = .right then width - text.length else 0)) space) := by
  unfold placementCells
  split
  next hfits =>
    cases justify with
    | left =>
      rw [if_neg (by simp), if_neg (by decide), Nat.sub_zero]
      rcases Nat.lt_or_ge k text.length with hin | hout
      · simp [List.getElem?_append_left, hin]
      · rw [List.getElem?_append_right hout, List.getElem?_replicate, if_pos (by omega)]
        simp [hout]
    | right =>
      simp only [if_true]
      rcases Nat.lt_or_ge k (width - text.length) with hpad | htext
      · rw [if_pos hpad, List.getElem?_append_left (by simpa using hpad), List.getElem?_replicate, if_pos hpad]
      · have hin : k - (width - text.length) < text.length := by omega
        rw [if_neg (by omega), List.getElem?_append_right (by simpa using htext)]
        simp [hin]
  next hlong =>
    have hpad : (if justify = .right then width - text.length else 0) = 0 := by split <;> omega
    have hin : k < text.length := by omega
    simp [hpad, hk, hin]

/-- Before and behind the cells the card stands as it was. -/
theorem writeCells_getElem? {first : Nat} {cells card : List Byte} (hfits : first - 1 + cells.length ≤ card.length) (i : Nat) :
    (writeCells first cells card)[i]? =
      if i < first - 1 ∨ first - 1 + cells.length ≤ i then card[i]? else cells[i - (first - 1)]? := by
  have hbefore : (card.take (first - 1)).length = first - 1 := by simp; omega
  rw [writeCells, List.append_assoc]
  split
  next hout =>
    rcases hout with hleft | hright
    · rw [List.getElem?_append_left (by omega), List.getElem?_take_of_lt hleft]
    · rw [List.getElem?_append_right (by omega), List.getElem?_append_right (by omega), List.getElem?_drop]
      congr 1
      omega
  next hin => rw [List.getElem?_append_right (by omega), List.getElem?_append_left (by omega), hbefore]

theorem writeCells_length {first : Nat} {cells card : List Byte} (hfits : first - 1 + cells.length ≤ card.length) :
    (writeCells first cells card).length = card.length := by
  simp [writeCells]; omega

theorem cardText_concat (texts : Field → List Byte) (fields : List Placement) (p : Placement) :
    cardText texts (fields ++ [p]) =
      writeCells p.first (placementCells p.justify p.width (texts p.field)) (cardText texts fields) := by
  simp only [cardText, List.foldl_append, List.foldl_cons, List.foldl_nil]

theorem cardText_length (texts : Field → List Byte) (h : ∀ q ∈ fields, placementLaw q) :
    (cardText texts fields).length = 80 := by
  induction fields using List.reverseRecOn with
  | nil => rfl
  | append_singleton fields p ih =>
    obtain ⟨hfirst, hwidth, hend⟩ := h p (by simp)
    have hcard := ih fun q hq => h q (by simp [hq])
    rw [cardText_concat, writeCells_length (by simp; omega), hcard]

/-- A placement on the card writes its columns and no others. -/
theorem cardText_concat_column (hfields : ∀ q ∈ fields, placementLaw q) (hp : placementLaw p) {column : Nat}
    (hcolumn : 1 ≤ column) :
    (cardText texts (fields ++ [p]))[column - 1]? =
      if column < p.first ∨ p.first + p.width ≤ column then (cardText texts fields)[column - 1]?
      else (placementCells p.justify p.width (texts p.field))[column - p.first]? := by
  obtain ⟨hfirst, hwidth, hend⟩ := hp
  have hcard := cardText_length texts hfields
  have hout : (column - 1 < p.first - 1 ∨ p.first - 1 + p.width ≤ column - 1) ↔
      (column < p.first ∨ p.first + p.width ≤ column) := by omega
  have hcell : column - 1 - (p.first - 1) = column - p.first := by omega
  rw [cardText_concat, writeCells_getElem? (by simp; omega)]
  simp only [placementCells_length, hout, hcell]

end

/-! The print line (R111). -/

/-- What the print line leaves off a card is spaces alone. -/
theorem printLineOf_append_spaces (card : List Byte) :
    card = printLineOf card ++ List.replicate (card.length - (printLineOf card).length) space := by
  have hparts : printLineOf card ++ card.rtakeWhile (fun c => c == space) = card := List.rdropWhile_append_rtakeWhile
  have hspaces : card.rtakeWhile (fun c => c == space) = List.replicate (card.rtakeWhile (fun c => c == space)).length space :=
    List.eq_replicate_of_mem fun c hc => eq_of_beq (List.mem_rtakeWhile_imp (p := fun c => c == space) hc)
  have hcount : card.length - (printLineOf card).length = (card.rtakeWhile (fun c => c == space)).length := by
    rw [← congrArg List.length hparts, List.length_append, Nat.add_sub_cancel_left]
  rw [hcount, ← hspaces, hparts]

theorem printLineOf_length_le (card : List Byte) : (printLineOf card).length ≤ card.length :=
  (List.rdropWhile_prefix (fun c => c == space) (l := card)).length_le

theorem printLineOf_getLast?_ne_space (card : List Byte) : (printLineOf card).getLast? ≠ some space := by
  intro hlast
  obtain ⟨hne, hspace⟩ := List.mem_getLast?_eq_getLast hlast
  exact List.rdropWhile_last_not _ card hne (beq_iff_eq.mpr hspace.symm)

/-! The bytes of a punch image (R115, R204). -/

namespace Codes

variable {columns : List Pattern} {items : List PunchItem}

/-- A column costs two bytes at most: those of its own literal, or its part of a run's one byte. -/
theorem bytes_le (h : Codes columns items) : (items.flatMap itemBytes).length ≤ 2 * columns.length := by
  induction h with
  | nil => simp
  | lengthen _ ih => simp [itemBytes, be8] at ih ⊢; omega
  | openRun _ _ ih => simp [itemBytes, be8] at ih ⊢; omega
  | literal _ _ ih => simp [itemBytes, be16] at ih ⊢; omega

theorem bytes_pos (h : Codes columns items) (hcolumns : columns ≠ []) : 0 < (items.flatMap itemBytes).length := by
  cases h with
  | nil => exact absurd rfl hcolumns
  | lengthen => simp [itemBytes, be8]
  | openRun => simp [itemBytes, be8]
  | literal => simp [itemBytes, be16]

end Codes

/-! The body of an instruction, by its slot's (R100 to R103). -/

section
variable {v : Settings} {c : CardComposer} {slot : Slot}

theorem renderBody_of_waste {reason : WasteReason} (h : slot.body = .waste reason) : renderBody v c slot = .waste reason := by
  rw [renderBody, h]

theorem renderBody_of_card {b : Binding} {g : SlotFlags} (h : slot.body = .card b g) :
    renderBody v c slot =
      .card (dispositionOf v b g) (cardBinding b) g (textIsCut (fieldText slot.reel slot.number b g) c.fieldMap)
        (printLineOf (cardText (fieldText slot.reel slot.number b g) c.fieldMap))
        (punchImage c.punch (cardText (fieldText slot.reel slot.number b g) c.fieldMap)) := by
  rw [renderBody, h]

end

/-! The record of an instruction (R203). -/

theorem cardFlagBits_eq_sum (g : SlotFlags) (textCut reissued : Bool) :
    cardFlagBits g textCut reissued =
      (([g.retake, g.lateRetake, g.short, g.early, g.suspect, g.oversize, g.markInferred, g.pitchEstimated,
        g.sampleOverflow, g.poor, textCut, reissued] : List Bool).zipIdx.map (fun p => if p.1 then 2 ^ p.2 else 0)).sum := by
  simp [cardFlagBits, bitAt, List.zipIdx, Nat.add_assoc]

section
variable {i : Instruction} {src : Byte}

theorem instructionRecord_of_waste {reason : WasteReason} (h : i.body = .waste reason) :
    instructionRecord src i =
      ⟨0x21#8, 65#8, src, cutPart i ++ be8 (wasteReasonCode reason) ++ flag8 i.reissued⟩ := by
  rw [instructionRecord, h]; rfl

theorem instructionRecord_of_card {disposition : Disposition} {binding : CardBinding} {g : SlotFlags} {textCut : Bool}
    {line : List Byte} {image : List PunchItem} (h : i.body = .card disposition binding g textCut line image) :
    instructionRecord src i =
      ⟨0x20#8, 65#8, src, cutPart i ++ dispositionByte disposition ++ bindingBytes binding ++
        be32 (cardFlagBits g textCut i.reissued) ++ be8 line.length ++ line ++ image.flatMap itemBytes⟩ := by
  rw [instructionRecord, h]; rfl

theorem cutPart_length (i : Instruction) : (cutPart i).length = 14 := rfl

theorem waste_payload_length {reason : WasteReason} (h : i.body = .waste reason) :
    (instructionRecord src i).payload.length = 16 := by
  rw [instructionRecord_of_waste h]; rfl

/-- The parts of a CARD of fixed length have 25 bytes together. -/
theorem card_payload_length {disposition : Disposition} {binding : CardBinding} {g : SlotFlags} {textCut : Bool}
    {line : List Byte} {image : List PunchItem} (h : i.body = .card disposition binding g textCut line image) :
    (instructionRecord src i).payload.length = 25 + line.length + (image.flatMap itemBytes).length := by
  have hdisposition : (dispositionByte disposition).length = 1 := by cases disposition <;> rfl
  have hbinding : (bindingBytes binding).length = 5 := by cases binding <;> rfl
  rw [instructionRecord_of_card h]
  simp only [List.length_append, cutPart_length, hdisposition, hbinding]
  rfl

end

end Sys2Proof.Machine

namespace Sys2Proof.Proofs

open Sys2Proof.Machine Sys2Proof.Safety

/-- Settles O50: the fields, the columns of a placement, the instruction, its bytes and their number, each by its rule. -/
theorem cardFitsRecord : Obligations.CardFitsRecord := by
  refine ⟨?texts, ?columns, ?instruction, ?bytes, ?size⟩
  case texts =>
    intro reel number b g texts digits digit
    refine ⟨rfl, rfl, rfl, rfl, ?_, ?_, ?_, ?_⟩
    · rintro e serial sheet rfl hsheet hcount
      exact congrArg₂ (fun x y => x ++ [0x2F#8] ++ y) (decimal_eq_toDigits hsheet) (decimal_eq_toDigits hcount)
    · rintro serial sheet rfl hsheet
      exact congrArg (· ++ [0x2F#8, 0x3F#8]) (decimal_eq_toDigits hsheet)
    · rintro cause rfl
      rfl
    · exact congrArg₂ (fun x y => x ++ [0x2E#8] ++ y) (padded_four reel) (padded_five number)
  case columns =>
    refine fun texts fields p => ⟨rfl, ?_⟩
    intro hfields hp content pad column hlow hhigh
    rw [cardText_concat_column hfields hp hlow]
    split
    next => rfl
    next hin => exact placementCells_getElem? p.justify (by omega) content
  case instruction =>
    intro s seq slot i
    refine ⟨rfl, rfl, rfl, rfl, rfl, rfl, fun reason hslot => renderBody_of_waste hslot, ?_⟩
    · intro b g hslot texts card
      refine (renderBody_of_card hslot).trans ?_
      rcases b with ⟨e, serial, sheet⟩ | ⟨serial, sheet⟩ | ⟨_ | _⟩ <;> rfl
  case bytes =>
    intro src i cut
    refine ⟨fun reason hbody => ?_, fun disposition binding g textCut line image hbody => ?_⟩
    · rw [instructionRecord_of_waste hbody, List.append_assoc]
      cases reason <;> cases i.reissued <;> rfl
    · have hdisposition : dispositionByte disposition = [if disposition = .mount then 0#8 else 1#8] := by
        cases disposition <;> rfl
      rw [instructionRecord_of_card hbody, hdisposition, cardFlagBits_eq_sum]
      cases binding <;> rfl
  case size =>
    intro s seq slot src hlaw payload
    obtain ⟨_, hfields, _⟩ := hlaw
    refine ⟨fun reason hslot => waste_payload_length (renderBody_of_waste hslot), ?_⟩
    · intro b g hslot card
      have hcard : card.length = 80 := cardText_length _ hfields
      have hpayload : payload.length = 25 + (printLineOf card).length +
          ((punchImage s.composer.punch card).flatMap itemBytes).length := card_payload_length (renderBody_of_card hslot)
      have hline := printLineOf_length_le card
      have hcodes : Codes (card.map (patternOf s.composer.punch)) (punchImage s.composer.punch card) := codes_punchItems _
      have hcolumns : (card.map (patternOf s.composer.punch)).length = 80 := (List.length_map ..).trans hcard
      have hmost := hcodes.bytes_le
      have hleast := hcodes.bytes_pos (List.ne_nil_of_length_pos (by omega))
      refine ⟨hcard, by omega, by omega, ?_, printLineOf_getLast?_ne_space card⟩
      exact hcard ▸ printLineOf_append_spaces card

end Sys2Proof.Proofs
end
